-- ==== Sys2Proof/Word.lean ====
section
/-! DEFINITION. The words of the core: the fixed widths of R7 and R8 as types, and a level that may be `X` (R10). -/

namespace Sys2Proof

/-- A word of the CFG/STATUS shift path, `W` = 24 bits (R7). -/
abbrev Word := BitVec 24

/-- The chip-select code, 3 bits (R8, R19). -/
abbrev Code := BitVec 3

/-- A per-channel group, bit `i` for channel `i`, `N_CH` = 4 bits (R8). -/
abbrev Channels := BitVec 4

/-- The number of a synthesizer channel, 0 to 3 (R7). -/
abbrev Channel := Fin 4

/-- An event word (R62). -/
abbrev EventWord := BitVec 8

/-- A transaction selector `{p, code}` (R66). -/
abbrev SelectorWord := BitVec 4

/-- The bit counter of the Counted variant, 5 bits (R23, R27). -/
abbrev BitCount := BitVec 5

/-- The phase-A capture, `RB_CAP_W` = 8 bits (R7, R30). -/
abbrev Capture := BitVec 8

/-- The SISO's contents, `SISO_W` = 23 bits (R7, R31). -/
abbrev SisoWord := BitVec 23

/-- The protocol revision, 7 bits (R7). -/
abbrev Revision := BitVec 7

/-- The level of a line: a defined bit, or `X`, a bit with no defined value (R10). -/
inductive Level where
  | known (b : Bool)
  | x
deriving DecidableEq, Repr

end Sys2Proof
end

