-- ==== Sys2Proof/Config.lean ====
section
/-! DEFINITION. What a model of the core takes as given: the profiles of R6 and R7 with the parameters they fix, the input
ports of R19, and the free values, opaque constants without a body, for what the spec leaves to the build, to the
environment or to nobody (`X`). -/

namespace Sys2Proof

/-- The two revisions the spec distinguishes (R6, R7). -/
inductive Profile where
  | base
  | later
deriving DecidableEq, Repr

/-- The latch point of the shift register (R7). -/
inductive SrVariant where
  | selectLatched
  | counted
deriving DecidableEq, Repr

/-- `SR_VARIANT` of a profile (R7). -/
def Profile.srVariant : Profile → SrVariant
  | .base => .selectLatched
  | .later => .counted

/-- `READBACK`: is the read-back sub-protocol present (R7)? -/
def Profile.readback : Profile → Bool
  | .base => false
  | .later => true

/-- `CLK_SEL_W`, the width of the clock-source select (R7). -/
def Profile.clkSelWidth : Profile → Nat
  | .base => 1
  | .later => 2

/-- `DIV_W`, the width of the clock divider select (R7). -/
def Profile.divWidth : Profile → Nat
  | .base => 0
  | .later => 2

/-- The input ports of the core and their levels (R19). The last four are the straps (R20). -/
structure Inputs where
  sck : Bool
  sdi : Bool
  code : Code
  auxSck : Bool
  auxCs : Bool
  auxSdi : Channels
  sw : Channels
  smpErr : Channels
  pllLock : Channels
  ddsSdo : Channels
  attSdo : Bool
  en9910 : Bool
  enNu : Bool
  enEem1 : Bool
  strapRsv : Bool
deriving DecidableEq, Repr, Inhabited

/-- The contents the power-up of R180 leaves at `X`. -/
structure PowerUpContents where
  sr : Word
  sdo : Bool
  rbCap : Capture
  siso : SisoWord
  sisoOut : Bool
deriving DecidableEq, Repr

/-- Free value: the protocol revision of a BASE build (R7 leaves `PROTO_REV` OPEN; log 2). -/
opaque Config.protoRevBase : Revision

/-- Free value: how far the revision of a LATER build is from the BASE one, less one (R122 asks only that they differ; log 2). -/
opaque Config.protoRevGap : Fin 127

/-- `PROTO_REV` of a build of each profile: both open, and different (R122). -/
def Config.protoRev : Profile → Revision
  | .base => Config.protoRevBase
  | .later => Config.protoRevBase + BitVec.ofNat 7 (Config.protoRevGap.val + 1)

/-- Free value: the SR contents at power-up, `X` (R180; log 3). -/
opaque Config.powerUpSr : Word

/-- Free value: the SR's serial-out register at power-up, `X` (R180; log 3). -/
opaque Config.powerUpSdo : Bool

/-- Free value: the phase-A capture at power-up, `X` (R180; log 3). -/
opaque Config.powerUpRbCap : Capture

/-- Free value: the SISO's contents at power-up, `X` (R180; log 3). -/
opaque Config.powerUpSiso : SisoWord

/-- Free value: the SISO's serial-out register at power-up, `X` (R180; log 3). -/
opaque Config.powerUpSisoOut : Bool

/-- The free power-up contents as one record (R180). -/
def Config.powerUpContents : PowerUpContents where
  sr := Config.powerUpSr
  sdo := Config.powerUpSdo
  rbCap := Config.powerUpRbCap
  siso := Config.powerUpSiso
  sisoOut := Config.powerUpSisoOut

/-- Free value: the levels the environment and the board present at launch (R182 fixes only `sck` and `code`; log 4). -/
opaque Config.launchLevels : Inputs

/-- Free value: the bit the `n`-th capture of an `X` level records (R10, R128; log 5). -/
opaque Config.freeBit : Nat → Bool

end Sys2Proof
end

