-- ==== Sys2Proof/Syntax.lean ====
section
/-! DEFINITION. What the core can be asked to do: the five bus events (R62) and the fifteen transaction selectors (R66), one
constructor for each row of spec/opcode_table.json, and the items a bus trace is written in. -/

namespace Sys2Proof

/-- The record of an `ENV` event (R64): the new level of every input it names. All of R19's inputs can be named, the
forbidden ones too, so that an `ENV` that names one is a term the model refuses and not one it cannot write. -/
structure EnvRecord where
  sck : Option Bool := none
  sdi : Option Bool := none
  code : Option Code := none
  auxSck : Option Bool := none
  auxCs : Option Bool := none
  auxSdi : Option Channels := none
  sw : Option Channels := none
  smpErr : Option Channels := none
  pllLock : Option Channels := none
  ddsSdo : Option Channels := none
  attSdo : Option Bool := none
  en9910 : Option Bool := none
  enNu : Option Bool := none
  enEem1 : Option Bool := none
  strapRsv : Option Bool := none
deriving DecidableEq, Repr

/-- The record that names no input. -/
def EnvRecord.empty : EnvRecord where

/-- The rows of spec/opcode_table.json. -/
inductive Instr where
  /-- RISE, the sample-phase edge (R146). -/
  | rise
  /-- FALL, the shift-phase edge (R147). -/
  | fall
  /-- SEL c, a change of the chip-select code (R148). -/
  | sel (c : Code)
  /-- SDI b, a change of the shared serial-in level (R149). -/
  | sdi (b : Bool)
  /-- ENV r, a change of the slow and auxiliary inputs (R150). -/
  | env (r : EnvRecord)
  /-- IDLE, selector x000; `p` is the bit the selector leaves open (R101). -/
  | idle (p : Bool)
  /-- CFG_SEL, selector 0001 (R102). -/
  | cfgSel
  /-- ATT_SEL, selector 0010 (R103). -/
  | attSel
  /-- BROADCAST_SEL, selector 0011 (R104). -/
  | broadcastSel
  /-- DEV0_SEL, selector 0100 (R105). -/
  | dev0Sel
  /-- DEV1_SEL, selector 0101 (R106). -/
  | dev1Sel
  /-- DEV2_SEL, selector 0110 (R107). -/
  | dev2Sel
  /-- DEV3_SEL, selector 0111 (R108). -/
  | dev3Sel
  /-- RB_CFG, selector 1001 (R136). -/
  | rbCfg
  /-- RB_ATT, selector 1010 (R137). -/
  | rbAtt
  /-- RB_BCAST, selector 1011 (R138). -/
  | rbBcast
  /-- RB_DEV0, selector 1100 (R139). -/
  | rbDev0
  /-- RB_DEV1, selector 1101 (R140). -/
  | rbDev1
  /-- RB_DEV2, selector 1110 (R141). -/
  | rbDev2
  /-- RB_DEV3, selector 1111 (R142). -/
  | rbDev3
deriving DecidableEq, Repr

/-- One item of a bus trace, in one of the two formats of R61: an event word with its record (empty but for `ENV`,
R62, R64), or a transaction selector. -/
inductive Item where
  | event (w : EventWord) (r : EnvRecord)
  | selector (w : SelectorWord)
deriving DecidableEq, Repr

end Sys2Proof
end

