-- ==== Sys2Proof/WellFormed.lean ====
section
/-! DEFINITION. Which instructions are well formed: R64's two checks on the record of an `ENV`. Every other constructor's
operands fit their fields by type. -/

namespace Sys2Proof

/-- Does the record name an input that has events of its own: the clock, the serial-in line or the code (R64)? -/
def EnvRecord.namesBusLine (r : EnvRecord) : Bool :=
  r.sck.isSome || r.sdi.isSome || r.code.isSome

/-- Does the record name a strap (R20, R64)? -/
def EnvRecord.namesStrap (r : EnvRecord) : Bool :=
  r.en9910.isSome || r.enNu.isSome || r.enEem1.isSome || r.strapRsv.isSome

/-- May an `ENV` carry this record (R64)? -/
def EnvRecord.legal (r : EnvRecord) : Bool :=
  !r.namesBusLine && !r.namesStrap

/-- An instruction the spec gives a place to: an `ENV` carries a legal record (R64), the rest always. -/
def Instr.wellFormed : Instr → Bool
  | .rise => true
  | .fall => true
  | .sel _ => true
  | .sdi _ => true
  | .env r => r.legal
  | .idle _ => true
  | .cfgSel => true
  | .attSel => true
  | .broadcastSel => true
  | .dev0Sel => true
  | .dev1Sel => true
  | .dev2Sel => true
  | .dev3Sel => true
  | .rbCfg => true
  | .rbAtt => true
  | .rbBcast => true
  | .rbDev0 => true
  | .rbDev1 => true
  | .rbDev2 => true
  | .rbDev3 => true

end Sys2Proof
end

