-- ==== Sys2Proof/Decode.lean ====
section
/-! DEFINITION. Reading bus items: event words (R62, R65) and transaction selectors (R66), total, refusing by name; the
encoder, from the same tables; and the reading of the opcode table's words. -/

namespace Sys2Proof

/-- Why an item spells no event (R65). -/
inductive DecodeError where
  /-- The kind `e[7:5]` is 101, 110 or 111 (R65). -/
  | reservedKind (w : EventWord)
  /-- The payload has a 1 where R62's table shows 0 (R65). -/
  | strayPayload (w : EventWord)
  /-- A record stands on a word that is not `ENV`; only `ENV` carries one (R62, R64; log 15). -/
  | strayRecord (w : EventWord)
deriving DecidableEq, Repr

/-- What decoding an item gives. -/
inductive Decoded where
  | instr (i : Instr)
  | invalid (e : DecodeError)
deriving DecidableEq, Repr

/-- The event an event word spells, its record apart (R62): the kind is `e[7:5]`, the payload `e[4:0]`. -/
def decodeEventWord (w : EventWord) (r : EnvRecord) : Decoded :=
  if w.extractLsb' 5 3 = 0b000#3 then
    if w.extractLsb' 0 5 = 0#5 then .instr .rise else .invalid (.strayPayload w)
  else if w.extractLsb' 5 3 = 0b001#3 then
    if w.extractLsb' 0 5 = 0#5 then .instr .fall else .invalid (.strayPayload w)
  else if w.extractLsb' 5 3 = 0b010#3 then
    if w.extractLsb' 3 2 = 0#2 then .instr (.sel (w.extractLsb' 0 3)) else .invalid (.strayPayload w)
  else if w.extractLsb' 5 3 = 0b011#3 then
    if w.extractLsb' 1 4 = 0#4 then .instr (.sdi (w.getLsbD 0)) else .invalid (.strayPayload w)
  else if w.extractLsb' 5 3 = 0b100#3 then
    if w.extractLsb' 0 5 = 0#5 then .instr (.env r) else .invalid (.strayPayload w)
  else .invalid (.reservedKind w)

/-- The event of an event word and its record: only `ENV` carries one (R62, R64). -/
def decodeEvent (w : EventWord) (r : EnvRecord) : Decoded :=
  match decodeEventWord w r with
  | .instr (.env r') => .instr (.env r')
  | .instr i => if r = EnvRecord.empty then .instr i else .invalid (.strayRecord w)
  | .invalid e => .invalid e

/-- The transaction selector a 4-bit value spells; every value has a meaning (R66). -/
def decodeSelector (w : SelectorWord) : Instr :=
  if w.extractLsb' 0 3 = 0b000#3 then .idle (w.getLsbD 3)
  else if w = 0b0001#4 then .cfgSel
  else if w = 0b0010#4 then .attSel
  else if w = 0b0011#4 then .broadcastSel
  else if w = 0b0100#4 then .dev0Sel
  else if w = 0b0101#4 then .dev1Sel
  else if w = 0b0110#4 then .dev2Sel
  else if w = 0b0111#4 then .dev3Sel
  else if w = 0b1001#4 then .rbCfg
  else if w = 0b1010#4 then .rbAtt
  else if w = 0b1011#4 then .rbBcast
  else if w = 0b1100#4 then .rbDev0
  else if w = 0b1101#4 then .rbDev1
  else if w = 0b1110#4 then .rbDev2
  else .rbDev3

/-- Decoding of a bus item, total (R65). -/
def decodeItem : Item → Decoded
  | .event w r => decodeEvent w r
  | .selector w => .instr (decodeSelector w)

/-- The item that spells an instruction, from the tables of R62 and R66. -/
def encode : Instr → Item
  | .rise => .event 0x00#8 EnvRecord.empty
  | .fall => .event 0x20#8 EnvRecord.empty
  | .sel c => .event (0x40#8 ||| c.setWidth 8) EnvRecord.empty
  | .sdi b => .event (0x60#8 ||| (BitVec.ofBool b).setWidth 8) EnvRecord.empty
  | .env r => .event 0x80#8 r
  | .idle p => .selector ((BitVec.ofBool p).setWidth 4 <<< 3)
  | .cfgSel => .selector 0b0001#4
  | .attSel => .selector 0b0010#4
  | .broadcastSel => .selector 0b0011#4
  | .dev0Sel => .selector 0b0100#4
  | .dev1Sel => .selector 0b0101#4
  | .dev2Sel => .selector 0b0110#4
  | .dev3Sel => .selector 0b0111#4
  | .rbCfg => .selector 0b1001#4
  | .rbAtt => .selector 0b1010#4
  | .rbBcast => .selector 0b1011#4
  | .rbDev0 => .selector 0b1100#4
  | .rbDev1 => .selector 0b1101#4
  | .rbDev2 => .selector 0b1110#4
  | .rbDev3 => .selector 0b1111#4

/-- The item a word of spec/opcode_table.json stands for, with an empty record. The table's words carry no mark of their
format: a word of at most 4 bits is a selector; an 8-bit word that spells an event is that event; one that spells none
and fits in 4 bits is a selector (DESIGN CHOICE, log 8). -/
def tableItem (nbits w : Nat) : Item :=
  if nbits ≤ 4 then .selector (BitVec.ofNat 4 w)
  else
    match decodeEvent (BitVec.ofNat 8 w) EnvRecord.empty with
    | .instr _ => .event (BitVec.ofNat 8 w) EnvRecord.empty
    | .invalid _ => if w < 16 then .selector (BitVec.ofNat 4 w) else .event (BitVec.ofNat 8 w) EnvRecord.empty

/-- The instruction the decoder reads from an instruction whose bits are `w`, numbered as spec/opcode_table.json numbers
them. -/
def decodeTableWord (nbits w : Nat) : Option Instr :=
  if 8 < nbits ∨ 2 ^ nbits ≤ w then none
  else
    match decodeItem (tableItem nbits w) with
    | .instr i => some i
    | .invalid _ => none

end Sys2Proof
end

