-- ==== Sys2Proof/Machine/State.lean ====
section
/-! DEFINITION. The state of the core (R23), the reasons a step stops, and the state at power-up (R180). -/

namespace Sys2Proof.Machine

open Sys2Proof

/-- The read-back phase (R29): A, a normal write-style transaction; B, a dedicated read transaction. -/
inductive Phase where
  | a
  | b
deriving DecidableEq, Repr

/-- The state of the core: R23's list, the two parameters of R7 that a run keeps (`profile`, `protoRev`), and the model's
own `pending` (the bus items the environment has yet to present, log 6) and `draws` (how many free bits captures of `X`
have taken, log 5). -/
structure State where
  profile : Profile
  protoRev : Revision
  sr : Word
  sdo : Bool
  fresh : Bool
  cnt : BitCount
  pdi : Word
  rbPhase : Phase
  rbCap : Capture
  siso : SisoWord
  sisoOut : Bool
  sisoFresh : Bool
  inp : Inputs
  pending : List Item
  draws : Nat
deriving DecidableEq, Repr

/-- The core's faults: none. "There is no exception/error-return model": zero exception causes (R160), and no behaviour of
the core is treated as a fault. Nothing raises one; safe. -/
inductive Fault where
deriving DecidableEq, Repr

/-- Why a step is refused (R152): the refusals are the model's, of inputs that describe no signal or that the source calls
static. -/
inductive Refusal where
  /-- An instruction without a meaning yet. Raised by `exec` alone; safe. -/
  | notModelled (mnemonic : String)
  /-- RISE with the clock already high (R63). Raised by `execRise`; safe, no signal does this. -/
  | riseWithClockHigh
  /-- FALL with the clock already low (R63). Raised by `execFall`; safe, no signal does this. -/
  | fallWithClockLow
  /-- ENV whose record names a strap (R64). Raised by `execEnv`; safe, straps are static. -/
  | envNamesStrap
  /-- ENV whose record names `sck`, `sdi` or `code` (R64). Raised by `execEnv`; safe, they have events of their own. -/
  | envNamesBusLine
  /-- A selector that the SEL event of its code does not enter from this state, because the transaction would be of the
  other phase (R66, R67). Raised by the meanings of the selectors other than IDLE; safe (log 7). -/
  | selectorNotEntered (wanted : SelectorWord)
  /-- An item that spells no event (R65). Raised by `step`; safe. -/
  | notAnEvent (e : DecodeError)
deriving DecidableEq, Repr

/-- The state at power-up (R180) of a build of profile `p`, with the revision of that build (R122), under the launch premises
of R182: the values the rules fix, `x` for what they leave at `X`, and `levels` for what the environment presents, with the
clock low and nothing selected. -/
def State.powerUp (p : Profile) (levels : Inputs) (x : PowerUpContents) : State where
  profile := p
  protoRev := Config.protoRev p
  sr := x.sr
  sdo := x.sdo
  fresh := true
  cnt := 23#5
  pdi := 0#24
  rbPhase := .a
  rbCap := x.rbCap
  siso := x.siso
  sisoOut := x.sisoOut
  sisoFresh := true
  inp := { levels with sck := false, code := 0#3 }
  pending := []
  draws := 0

/-- The machine right after power-up, the only reset (R180, R181): the default profile of R7 (log 1), everything the spec
leaves open at its free value (logs 2, 3, 4), and no trace loaded (log 6). -/
def State.reset : State :=
  State.powerUp .base Config.launchLevels Config.powerUpContents

end Sys2Proof.Machine
end

