-- ==== Sys2Proof/Machine/Operands.lean ====
section
/-! DEFINITION. The operands of the rules: shifting (R157), the configuration fields (R33 to R37), the STATUS word (R38,
R119), the read-back source (R129), and what an `ENV` record does to the input levels (R150). -/

namespace Sys2Proof

/-- The field `v` in a word of `m` bits, its lowest bit at bit `lo` and every other bit of the word 0. -/
def placed {n : Nat} (m : Nat) (v : BitVec n) (lo : Nat) : BitVec m := v.setWidth m <<< lo

/-- `ifc_mode`, the echo of the straps (R38). -/
def Inputs.ifcMode (x : Inputs) : BitVec 4 :=
  placed 4 (BitVec.ofBool x.en9910) 0 ||| placed 4 (BitVec.ofBool x.enNu) 1 |||
    placed 4 (BitVec.ofBool x.enEem1) 2 ||| placed 4 (BitVec.ofBool x.strapRsv) 3

/-- The input levels after an `ENV` with a legal record: every input the record names takes its new level (R150). -/
def Inputs.withEnv (x : Inputs) (r : EnvRecord) : Inputs :=
  { x with
    auxSck := r.auxSck.getD x.auxSck
    auxCs := r.auxCs.getD x.auxCs
    auxSdi := r.auxSdi.getD x.auxSdi
    sw := r.sw.getD x.sw
    smpErr := r.smpErr.getD x.smpErr
    pllLock := r.pllLock.getD x.pllLock
    ddsSdo := r.ddsSdo.getD x.ddsSdo
    attSdo := r.attSdo.getD x.attSdo }

end Sys2Proof

namespace Sys2Proof.Machine

open Sys2Proof

/-- `{v[W-2:0], b}`: shift up by one place and take `b` into bit 0 (R157). -/
def shiftIn {n : Nat} (v : BitVec n) (b : Bool) : BitVec n := v.shiftConcat b

/-- The group whose bit `i` is `f i` (R9). -/
def ofChannels (f : Channel → Bool) : Channels :=
  BitVec.ofBool (f 3) ++ BitVec.ofBool (f 2) ++ BitVec.ofBool (f 1) ++ BitVec.ofBool (f 0)

/-- The fields of the configuration register; one the profile lacks reads as 0 (R37), and BASE's one-bit `clkSel` stands in
bit 0 (log 12). -/
structure CfgFields where
  rfSw : Channels
  led : Channels
  profile : BitVec 3
  maskNu : Channels
  ioUpdate : Bool
  clkSel : BitVec 2
  syncSel : Bool
  rst : Bool
  ioRst : Bool
  div : BitVec 2
  rbEn : Bool
deriving DecidableEq, Repr

/-- The field layout of the configuration register: R34 for BASE, R35 for LATER. -/
def decodeCfg (p : Profile) (v : Word) : CfgFields :=
  match p with
  | .base =>
    { rfSw := v.extractLsb' 0 4, led := v.extractLsb' 4 4, profile := v.extractLsb' 8 3, maskNu := v.extractLsb' 11 4
      ioUpdate := v.getLsbD 15, clkSel := (v.extractLsb' 16 1).setWidth 2, syncSel := v.getLsbD 17
      rst := v.getLsbD 18, ioRst := v.getLsbD 19, div := 0#2, rbEn := false }
  | .later =>
    { rfSw := v.extractLsb' 0 4, led := v.extractLsb' 4 4, profile := v.extractLsb' 8 3, maskNu := v.extractLsb' 11 4
      ioUpdate := v.getLsbD 15, clkSel := v.extractLsb' 16 2, syncSel := v.getLsbD 18
      rst := v.getLsbD 19, ioRst := v.getLsbD 20, div := v.extractLsb' 21 2, rbEn := v.getLsbD 23 }

/-- `cfg`, the fields of the configuration register in the active profile's layout (R37). -/
def State.cfg (s : State) : CfgFields := decodeCfg s.profile s.pdi

/-- `mask[i]`, the RoutingMask bit of channel `i` (R37). -/
def State.mask (s : State) (i : Channel) : Bool := s.cfg.maskNu.getLsbD i.val

/-- `out.rf_sw`, the switch-activation lines: field bit or override (R110). -/
def State.rfSw (s : State) : Channels := s.cfg.rfSw ||| s.inp.sw

/-- The STATUS word, computed from the live signals (R38, R119, R120): its fields at their bits, bit 23 reserved and 0. -/
def State.status (s : State) : Word :=
  placed 24 s.rfSw 0 ||| placed 24 s.inp.smpErr 4 ||| placed 24 s.inp.pllLock 8 ||| placed 24 s.inp.ifcMode 12 |||
    placed 24 s.protoRev 16

/-- The read-back source by code, zero-extended to the SISO's width (R129). -/
def State.readbackSource (s : State) (c : Code) : SisoWord :=
  if c = 1#3 then s.protoRev.setWidth 23
  else if c = 3#3 then s.inp.pllLock.setWidth 23
  else s.rbCap.setWidth 23

end Sys2Proof.Machine
end

