-- ==== Sys2Proof/Machine/Flags.lean ====
section
/-! DEFINITION. The one-bit conditions of the core (R41): the phase and the SR's select (R89, R90), the transaction selector
(R66), and the two rules that move the read-back phase (R125, R126). -/

namespace Sys2Proof.Machine

open Sys2Proof

/-- Is the read-back machine in phase B: never in BASE (R89)? -/
def State.phaseB (s : State) : Bool := s.profile.readback && decide (s.rbPhase = .b)

/-- `phaseA` (R89). -/
def State.phaseA (s : State) : Bool := !s.phaseB

/-- `sel_cfg`, the SR's select (R90). -/
def State.selCfg (s : State) : Bool := decide (s.inp.code = 1#3) && s.phaseA

/-- `sel4 = {p, code}`, the selector of the transaction in progress (R66). -/
def State.sel4 (s : State) : SelectorWord := BitVec.ofBool s.phaseB ++ s.inp.code

/-- The other phase (R125). -/
def Phase.flip : Phase → Phase
  | .a => .b
  | .b => .a

/-- The phase after a deassertion: it flips while the enable bit remains set, that is when it is set in `s0`, before the
step, and in `s1`, after the SR's part of it (R125). -/
def phaseAfterDeassertion (s0 s1 : State) : Phase :=
  if s0.cfg.rbEn && s1.cfg.rbEn then s0.rbPhase.flip else s0.rbPhase

/-- The phase at the end of a step: A while the enable bit is clear (R126); BASE has no phase. -/
def State.phaseAtRest (s : State) : Phase :=
  if s.profile.readback && !s.cfg.rbEn then .a else s.rbPhase

end Sys2Proof.Machine
end

