-- ==== Sys2Proof/Machine/Router.lean ====
section
/-! DEFINITION. The chip-select router and the serial-out multiplexer (R87 to R100). Everything here is a function of the
state and the input levels of one instant; the router has no state (R99). -/

namespace Sys2Proof.Machine

open Sys2Proof

/-- Is channel `i` on the shared path, not on the auxiliary one (R91)? -/
def State.shared (s : State) (i : Channel) : Bool := !(s.inp.enNu && s.mask i)

/-- Does channel `i` belong to a broadcast (R92)? -/
def State.bcast (s : State) (i : Channel) : Bool := !s.mask i

/-- The code that addresses channel `i` alone: `4 + i` (R87). -/
def channelCode (i : Channel) : Code := BitVec.ofNat 3 (4 + i.val)

/-- `sel_dds(i)`, the shared-bus select of channel `i` (R93). -/
def State.selDds (s : State) (i : Channel) : Bool :=
  s.phaseA && s.shared i &&
    (decide (s.inp.code = channelCode i) || (decide (s.inp.code = 3#3) && s.bcast i))

/-- `sel_att`, the attenuator chain's select (R96). -/
def State.selAtt (s : State) : Bool := decide (s.inp.code = 2#3) && s.phaseA

/-- The lowest channel whose mask bit is clear (R98). -/
def State.lowestUnmasked (s : State) : Option Channel :=
  if s.mask 0 = false then some 0
  else if s.mask 1 = false then some 1
  else if s.mask 2 = false then some 2
  else if s.mask 3 = false then some 3
  else none

/-- The serial-out of channel `i` as the multiplexer passes it for the channel's own code: `X` for a channel on the
auxiliary path (R98). -/
def State.channelSdo (s : State) (i : Channel) : Level :=
  if s.shared i then .known (s.inp.ddsSdo.getLsbD i.val) else .x

/-- `out.sdo`, the shared serial-out line (R98); it does not depend on the phase. -/
def State.outSdo (s : State) : Level :=
  if s.inp.code = 0#3 then .x
  else if s.inp.code = 1#3 then .known s.sdo
  else if s.inp.code = 2#3 then .known s.inp.attSdo
  else if s.inp.code = 3#3 then
    match s.lowestUnmasked with
    | some j => .known (s.inp.ddsSdo.getLsbD j.val)
    | none => .x
  else if s.inp.code = 4#3 then s.channelSdo 0
  else if s.inp.code = 5#3 then s.channelSdo 1
  else if s.inp.code = 6#3 then s.channelSdo 2
  else s.channelSdo 3

end Sys2Proof.Machine
end

