-- ==== Sys2Proof/Machine/Ops.lean ====
section
/-! DEFINITION. The named operations on the state: one setter a state element; the component rules of the SR, the capture,
the SISO and the phase (R75 to R82, R125 to R132), each reading the state `s0` at the start of the step and writing into the
state `s` being built (R143); the whole effect of the three events the core reacts to (R146 to R148); and the taking of the
next item of the bus trace. The core takes no exception and returns from none (R160, R170, R171), so no such operation
stands here. -/

namespace Sys2Proof.Machine

open Sys2Proof

/-- Write the SR contents. -/
def State.setSr (s : State) (v : Word) : State := { s with sr := v }

/-- Write the SR's serial-out register. -/
def State.setSdo (s : State) (b : Bool) : State := { s with sdo := b }

/-- Write the SR's fresh flag. -/
def State.setFresh (s : State) (b : Bool) : State := { s with fresh := b }

/-- Write the bit counter. -/
def State.setCnt (s : State) (n : BitCount) : State := { s with cnt := n }

/-- Write the configuration register. -/
def State.setPdi (s : State) (v : Word) : State := { s with pdi := v }

/-- Write the read-back phase. -/
def State.setRbPhase (s : State) (p : Phase) : State := { s with rbPhase := p }

/-- Write the capture. -/
def State.setRbCap (s : State) (v : Capture) : State := { s with rbCap := v }

/-- Write the SISO contents. -/
def State.setSiso (s : State) (v : SisoWord) : State := { s with siso := v }

/-- Write the SISO's serial-out register. -/
def State.setSisoOut (s : State) (b : Bool) : State := { s with sisoOut := b }

/-- Write the SISO's fresh flag. -/
def State.setSisoFresh (s : State) (b : Bool) : State := { s with sisoFresh := b }

/-- Write the input levels. -/
def State.setInp (s : State) (x : Inputs) : State := { s with inp := x }

/-- Write the list of pending items. -/
def State.setPending (s : State) (l : List Item) : State := { s with pending := l }

/-- Write the count of free bits drawn. -/
def State.setDraws (s : State) (n : Nat) : State := { s with draws := n }

/-- The level of the shared clock changes. -/
def State.setSck (s : State) (b : Bool) : State := s.setInp { s.inp with sck := b }

/-- The level of the shared serial-in line changes. -/
def State.setSdi (s : State) (b : Bool) : State := s.setInp { s.inp with sdi := b }

/-- The chip-select code changes. -/
def State.setCode (s : State) (c : Code) : State := s.setInp { s.inp with code := c }

/-- The word a sample edge of a selected SR makes: at the first one of a selection the STATUS word's low bits, later the
SR's own, shifted up, with the serial-in level in bit 0 (R75, R76, R77). -/
def State.sampledWord (s : State) : Word :=
  shiftIn (if s.fresh then s.status else s.sr) s.inp.sdi

/-- The SR's sample edge, SelectLatched variant (R76). -/
def sampleSelectLatched (s0 s : State) : State := (s.setSr s0.sampledWord).setFresh false

/-- The SR's sample edge, Counted variant: the last one of a frame latches the completed word and reloads the SR from the
STATUS word of the state before the latch (R78). -/
def sampleCounted (s0 s : State) : State :=
  if s0.cnt = 0#5 then
    (((s.setPdi s0.sampledWord).setSr s0.status).setCnt 23#5).setFresh false
  else ((s.setSr s0.sampledWord).setCnt (s0.cnt - 1#5)).setFresh false

/-- The SR's part of a `RISE`: nothing while it is not selected (R82). -/
def sampleSr (s0 s : State) : State :=
  if s0.selCfg then
    match s0.profile.srVariant with
    | .selectLatched => sampleSelectLatched s0 s
    | .counted => sampleCounted s0 s
  else s

/-- The SR's part of a `FALL` (R79, R82). -/
def presentSr (s0 s : State) : State :=
  if s0.selCfg then s.setSdo (s0.sr.getLsbD 23) else s

/-- The SR's part of the `SEL` that deasserts it: the BASE latch (R80), the LATER re-arming (R81). -/
def releaseSr (s0 s : State) : State :=
  if s0.selCfg then
    match s0.profile.srVariant with
    | .selectLatched => (if s0.fresh then s else s.setPdi s0.sr).setFresh true
    | .counted => (s.setFresh true).setCnt 23#5
  else s

/-- The capture of phase A: the bit on the shared serial-out line enters `rb_cap`; an `X` there enters as a free bit
(R10, R128; log 5). -/
def captureSdo (s0 s : State) : State :=
  match s0.outSdo with
  | .known b => s.setRbCap (shiftIn s0.rbCap b)
  | .x => (s.setRbCap (shiftIn s0.rbCap (Config.freeBit s0.draws))).setDraws (s0.draws + 1)

/-- The SISO's sample edge in phase B: load, then shift up filling 0 (R129, R130). -/
def sampleSiso (s0 s : State) : State :=
  if s0.sisoFresh then (s.setSiso (s0.readbackSource s0.inp.code)).setSisoFresh false
  else s.setSiso (shiftIn s0.siso false)

/-- The read-back machine's part of a `RISE`, LATER only: capture in phase A (R128), SISO in phase B (R130), nothing for
code 0 (R101). -/
def sampleReadback (s0 s : State) : State :=
  if s0.profile.readback && decide (s0.inp.code ≠ 0#3) then
    if s0.phaseA then captureSdo s0 s else sampleSiso s0 s
  else s

/-- The SISO's part of a `FALL`, in phase B (R131). -/
def presentSiso (s0 s : State) : State :=
  if s0.phaseB && decide (s0.inp.code ≠ 0#3) then s.setSisoOut (s0.siso.getLsbD 22) else s

/-- The read-back machine's part of a deassertion, LATER only: re-arm the SISO after a phase-B transaction (R132), then the
phase flip (R125), which reads the configuration after the SR's part of the step, in `s`. -/
def releaseReadback (s0 s : State) : State :=
  if s0.profile.readback && decide (s0.inp.code ≠ 0#3) then
    (if s0.phaseB then s.setSisoFresh true else s).setRbPhase (phaseAfterDeassertion s0 s)
  else s

/-- The end of every step: the phase returns to A while the enable bit is clear (R126). -/
def settlePhase (s : State) : State := s.setRbPhase s.phaseAtRest

/-- The whole effect of a legal `RISE` (R146). -/
def riseEffect (s : State) : State :=
  settlePhase ((sampleReadback s (sampleSr s s)).setSck true)

/-- The whole effect of a legal `FALL` (R147). -/
def fallEffect (s : State) : State :=
  settlePhase ((presentSiso s (presentSr s s)).setSck false)

/-- The whole effect of `SEL c`: no change for the current code, else R148's four parts in their order. -/
def selEffect (c : Code) (s : State) : State :=
  if c = s.inp.code then s
  else settlePhase ((releaseReadback s (releaseSr s s)).setCode c)

/-- Entering the transaction that selector `w` names, by the `SEL` event of its code ("entered by `SEL c`", R101 to R108 and
R136 to R142). Where that event would give a transaction of the other phase, the selector does not occur (R66, R67) and the
entry is refused (log 7). -/
def enterSelector (w : SelectorWord) (s : State) : Host.Outcome State Fault Refusal :=
  if (selEffect (w.extractLsb' 0 3) s).sel4 = w then .next (selEffect (w.extractLsb' 0 3) s)
  else .refused (.selectorNotEntered w)

/-- What taking the next item of the bus trace gives. -/
inductive Fetched where
  | nothing
  | item (i : Instr) (rest : State)
  | invalid (e : DecodeError)
deriving DecidableEq, Repr

/-- Take the next pending item and decode it (R12, R65). -/
def State.fetch (s : State) : Fetched :=
  match s.pending with
  | [] => .nothing
  | it :: rest =>
    match decodeItem it with
    | .instr i => .item i (s.setPending rest)
    | .invalid e => .invalid e

/-- Store the phase bit of a selector where the machine keeps it (R66): bit 3 set is LATER's phase B, which needs the
enable bit to last the step (R126), and LATER is a build with a revision of its own (R122); bit 3 clear is phase A. IDLE
leaves the bit open (R101). -/
def State.placePhaseBit (s : State) (w : SelectorWord) : State :=
  if w.extractLsb' 0 3 = 0#3 then s
  else if w.getLsbD 3 then 
    { s with
      profile := .later, protoRev := Config.protoRev .later, pdi := s.pdi ||| 0x800000#24, rbPhase := .b }
  else s.setRbPhase .a

/-- Put an item at the head of the bus trace, with what it needs to be the next thing the machine does (log 8). -/
def State.placeItem (s : State) (it : Item) : State :=
  match it with
  | .event _ _ => s.setPending (it :: s.pending)
  | .selector w => (s.placePhaseBit w).setPending (it :: s.pending)

end Sys2Proof.Machine
end

