-- ==== Sys2Proof/Machine/ClockEdges.lean ====
section
/-! DEFINITION. The meanings of the two clock edges, RISE (R146) and FALL (R147). -/

namespace Sys2Proof.Machine

open Sys2Proof

/-- RISE, the sample-phase edge: refused with the clock already high (R63, R146, R152). -/
def execRise (s : State) : Host.Outcome State Fault Refusal :=
  if s.inp.sck then .refused .riseWithClockHigh else .next (riseEffect s)

/-- FALL, the shift-phase edge: refused with the clock already low (R63, R147, R152). -/
def execFall (s : State) : Host.Outcome State Fault Refusal :=
  if s.inp.sck then .next (fallEffect s) else .refused .fallWithClockLow

end Sys2Proof.Machine
end

