-- ==== Sys2Proof/Machine/LevelEvents.lean ====
section
/-! DEFINITION. The meanings of the events that change a level: SEL (R148), SDI (R149) and ENV (R150). At the end of each
the phase rests at A while the enable bit is clear (R126, R151), but for a `SEL` of the current code, which changes nothing. -/

namespace Sys2Proof.Machine

open Sys2Proof

/-- SEL c, a change of the chip-select code (R148); always legal (R62). -/
def execSel (c : Code) (s : State) : Host.Outcome State Fault Refusal :=
  .next (selEffect c s)

/-- SDI b, a change of the shared serial-in level (R149); always legal (R62). -/
def execSdi (b : Bool) (s : State) : Host.Outcome State Fault Refusal :=
  .next (settlePhase (s.setSdi b))

/-- ENV r, a change of the slow and auxiliary inputs (R150): refused when the record names a strap, or a line that has
events of its own, whatever level it gives (R64, R152; log 9). -/
def execEnv (r : EnvRecord) (s : State) : Host.Outcome State Fault Refusal :=
  if r.namesStrap then .refused .envNamesStrap
  else if r.namesBusLine then .refused .envNamesBusLine
  else .next (settlePhase (s.setInp (s.inp.withEnv r)))

end Sys2Proof.Machine
end

