-- ==== Sys2Proof/Machine/SelectorsA.lean ====
section
/-! DEFINITION. The meanings of the phase-A transaction selectors (R101 to R108): each enters its transaction by the `SEL`
event of its code. What holds while it is current is what the lines of Router.lean and Outputs.lean, and RISE, FALL and SEL,
give in a state with that selector (log 7). -/

namespace Sys2Proof.Machine

open Sys2Proof

/-- IDLE: enter selector x000, nothing selected, in either phase; the bit the selector leaves open decides nothing (R101). -/
def execIdle (_p : Bool) (s : State) : Host.Outcome State Fault Refusal := .next (selEffect 0#3 s)

/-- CFG_SEL: enter the transaction of selector 0001, code 1, the CFG/STATUS exchange, in phase A (R102). -/
def execCfgSel (s : State) : Host.Outcome State Fault Refusal := enterSelector 0b0001#4 s

/-- ATT_SEL: enter the transaction of selector 0010, code 2, the attenuator chain, in phase A (R103). -/
def execAttSel (s : State) : Host.Outcome State Fault Refusal := enterSelector 0b0010#4 s

/-- BROADCAST_SEL: enter the transaction of selector 0011, code 3, the unmasked synthesizer channels together, in phase A (R104). -/
def execBroadcastSel (s : State) : Host.Outcome State Fault Refusal := enterSelector 0b0011#4 s

/-- DEV0_SEL: enter the transaction of selector 0100, code 4, synthesizer channel 0, in phase A (R105). -/
def execDev0Sel (s : State) : Host.Outcome State Fault Refusal := enterSelector 0b0100#4 s

/-- DEV1_SEL: enter the transaction of selector 0101, code 5, synthesizer channel 1, in phase A (R106). -/
def execDev1Sel (s : State) : Host.Outcome State Fault Refusal := enterSelector 0b0101#4 s

/-- DEV2_SEL: enter the transaction of selector 0110, code 6, synthesizer channel 2, in phase A (R107). -/
def execDev2Sel (s : State) : Host.Outcome State Fault Refusal := enterSelector 0b0110#4 s

/-- DEV3_SEL: enter the transaction of selector 0111, code 7, synthesizer channel 3, in phase A (R108). -/
def execDev3Sel (s : State) : Host.Outcome State Fault Refusal := enterSelector 0b0111#4 s

end Sys2Proof.Machine
end

