-- ==== Sys2Proof/Machine/SelectorsB.lean ====
section
/-! DEFINITION. The meanings of the phase-B transaction selectors (R136 to R142): each enters its read-back transaction by
the `SEL` event of its code. LATER only: in BASE these selectors cannot occur (R67), and the entry is refused (log 7). -/

namespace Sys2Proof.Machine

open Sys2Proof

/-- RB_CFG: enter the transaction of selector 1001, code 1, read-back of the protocol revision, in phase B (R136). -/
def execRbCfg (s : State) : Host.Outcome State Fault Refusal := enterSelector 0b1001#4 s

/-- RB_ATT: enter the transaction of selector 1010, code 2, read-back of the capture, in phase B (R137). -/
def execRbAtt (s : State) : Host.Outcome State Fault Refusal := enterSelector 0b1010#4 s

/-- RB_BCAST: enter the transaction of selector 1011, code 3, read-back of the PLL-lock vector, in phase B (R138). -/
def execRbBcast (s : State) : Host.Outcome State Fault Refusal := enterSelector 0b1011#4 s

/-- RB_DEV0: enter the transaction of selector 1100, code 4, read-back of the capture, in phase B (R139). -/
def execRbDev0 (s : State) : Host.Outcome State Fault Refusal := enterSelector 0b1100#4 s

/-- RB_DEV1: enter the transaction of selector 1101, code 5, read-back of the capture, in phase B (R140). -/
def execRbDev1 (s : State) : Host.Outcome State Fault Refusal := enterSelector 0b1101#4 s

/-- RB_DEV2: enter the transaction of selector 1110, code 6, read-back of the capture, in phase B (R141). -/
def execRbDev2 (s : State) : Host.Outcome State Fault Refusal := enterSelector 0b1110#4 s

/-- RB_DEV3: enter the transaction of selector 1111, code 7, read-back of the capture, in phase B (R142). -/
def execRbDev3 (s : State) : Host.Outcome State Fault Refusal := enterSelector 0b1111#4 s

end Sys2Proof.Machine
end

