-- ==== Sys2Proof/Machine/Dispatch.lean ====
section
/-! DEFINITION. The meaning of every instruction: one arm a constructor, each one direct call. -/

namespace Sys2Proof.Machine

open Sys2Proof

def exec (i : Instr) (s : State) : Host.Outcome State Fault Refusal :=
  match i with
  | .rise => Sys2Proof.Machine.execRise s
  | .fall => Sys2Proof.Machine.execFall s
  | .sel c => Sys2Proof.Machine.execSel c s
  | .sdi b => Sys2Proof.Machine.execSdi b s
  | .env r => Sys2Proof.Machine.execEnv r s
  | .idle p => Sys2Proof.Machine.execIdle p s
  | .cfgSel => Sys2Proof.Machine.execCfgSel s
  | .attSel => Sys2Proof.Machine.execAttSel s
  | .broadcastSel => Sys2Proof.Machine.execBroadcastSel s
  | .dev0Sel => Sys2Proof.Machine.execDev0Sel s
  | .dev1Sel => Sys2Proof.Machine.execDev1Sel s
  | .dev2Sel => Sys2Proof.Machine.execDev2Sel s
  | .dev3Sel => Sys2Proof.Machine.execDev3Sel s
  | .rbCfg => Sys2Proof.Machine.execRbCfg s
  | .rbAtt => Sys2Proof.Machine.execRbAtt s
  | .rbBcast => Sys2Proof.Machine.execRbBcast s
  | .rbDev0 => Sys2Proof.Machine.execRbDev0 s
  | .rbDev1 => Sys2Proof.Machine.execRbDev1 s
  | .rbDev2 => Sys2Proof.Machine.execRbDev2 s
  | .rbDev3 => Sys2Proof.Machine.execRbDev3 s

end Sys2Proof.Machine
end

