-- ==== Sys2Proof/Machine/Step.lean ====
section
/-! DEFINITION. One step of the machine (R143, R151): the next item of the bus trace is taken and its meaning applied. -/

namespace Sys2Proof.Machine

open Sys2Proof

/-- One step: with nothing pending the core stays as it is (R183, R186); an item that spells no event is refused (R65,
R152); any other item is what it spells. -/
def step (s : State) : Host.Outcome State Fault Refusal :=
  match s.fetch with
  | .nothing => .next s
  | .item i rest => exec i rest
  | .invalid e => .refused (.notAnEvent e)

/-- `s` with the instruction of a word of spec/opcode_table.json as the next item of its bus trace (log 8). -/
def State.withFetchWord (s : State) (nbits w : Nat) : State := s.placeItem (tableItem nbits w)

end Sys2Proof.Machine
end

