-- ==== Sys2Proof/Machine/Outputs.lean ====
section
/-! DEFINITION. The output ports (R21), each a function of the state and the input levels at the same instant (R153): the
router's lines (R94 to R98), the configuration decode (R109 to R117) and the read-back line (R133). -/

namespace Sys2Proof.Machine

open Sys2Proof

/-- The output ports of R21. `rbSdo` and `clkDiv` are `none` in BASE, which has no such port; `clkSel` is BASE's one bit
zero-extended (log 12). -/
structure Outputs where
  sdo : Level
  rbSdo : Option Bool
  ddsCs : Channels
  ddsSck : Channels
  ddsSdi : Channels
  attCs : Bool
  attSck : Bool
  attSdi : Bool
  attLe : Bool
  attRst : Bool
  rfSw : Channels
  ledG : Channels
  ledR : Channels
  ddsProfile : BitVec 3
  ddsIoUpdate : Bool
  ddsRst : Bool
  ddsIoRst : Bool
  clkSel : BitVec 2
  syncSel : Bool
  clkDiv : Option (BitVec 2)
deriving DecidableEq, Repr

/-- `out.dds_cs[i]` (R94). -/
def State.ddsCs (s : State) (i : Channel) : Bool := if s.shared i then s.selDds i else s.inp.auxCs

/-- `out.dds_sck[i]`, ungated on the shared path (R95). -/
def State.ddsSck (s : State) (i : Channel) : Bool := if s.shared i then s.inp.sck else s.inp.auxSck

/-- `out.dds_sdi[i]` (R95). -/
def State.ddsSdi (s : State) (i : Channel) : Bool := if s.shared i then s.inp.sdi else s.inp.auxSdi.getLsbD i.val

/-- `out.att_sck`, gated by the chain's select (R97). -/
def State.attSck (s : State) : Bool := s.inp.sck && s.selAtt

/-- `out.att_le`, asserted whenever the chain is not selected (R96). -/
def State.attLe (s : State) : Bool := !s.selAtt

/-- The synthesizer-fault indicator of the channels, active under the strap `en_9910` alone (R112). -/
def State.synthFault (s : State) : Channels :=
  if s.inp.en9910 then s.inp.smpErr ||| ~~~s.inp.pllLock else 0#4

/-- `out.led_r`, the red LEDs (R112). -/
def State.ledR (s : State) : Channels := s.cfg.led ||| s.synthFault

/-- `out.rb_sdo`, the read-back line, in LATER only (R133). -/
def State.rbSdo (s : State) : Option Bool := if s.profile.readback then some s.sisoOut else none

/-- `out.clk_div`, in LATER only (R117). -/
def State.clkDiv (s : State) : Option (BitVec 2) := if s.profile.readback then some s.cfg.div else none

/-- Every output of the core in a state (R21, R153). -/
def State.outputs (s : State) : Outputs where
  sdo := s.outSdo
  rbSdo := s.rbSdo
  ddsCs := ofChannels s.ddsCs
  ddsSck := ofChannels s.ddsSck
  ddsSdi := ofChannels s.ddsSdi
  attCs := s.selAtt
  attSck := s.attSck
  attSdi := s.inp.sdi
  attLe := s.attLe
  attRst := s.cfg.rst
  rfSw := s.rfSw
  ledG := s.rfSw
  ledR := s.ledR
  ddsProfile := s.cfg.profile
  ddsIoUpdate := s.cfg.ioUpdate
  ddsRst := s.cfg.rst
  ddsIoRst := s.cfg.ioRst
  clkSel := s.cfg.clkSel
  syncSel := s.cfg.syncSel
  clkDiv := s.clkDiv

end Sys2Proof.Machine
end

