-- ==== Sys2Proof/Machine/Transactions.lean ====
section
/-! DEFINITION. Transactions as sequences of events: the pseudo-instructions of R72, the running of a sequence, and the bits
a master samples along it (the read word and the read-back word of R72, R84, R135). -/

namespace Sys2Proof.Machine

open Sys2Proof

/-- `CLK b`: one SPI mode-0 bit (R72). -/
def clkEvents (b : Bool) : List Instr := [.sdi b, .rise, .fall]

/-- The clock pairs that send the bits in their order (R72). -/
def clkAll : List Bool → List Instr
  | [] => []
  | b :: bs => clkEvents b ++ clkAll bs

/-- `XFER c, n, d`, with `d`'s `n` bits as a list, the first one sent first (R72). -/
def xferEvents (c : Code) (bits : List Bool) : List Instr := .sel c :: (clkAll bits ++ [.sel 0#3])

/-- The 24 bits of a word in the order they are sent, bit 23 first (R45, R69). -/
def wordBits (v : Word) : List Bool := (List.range 24).map fun k => v.getLsbD (23 - k)

/-- A word assembled from serial bits in arrival order, the first one uppermost (R69). -/
def wordOfBits (bits : List Bool) : Word := bits.foldl shiftIn 0#24

/-- The word frame `m` of a sequence of bits carries, the frames numbered from 0 (R16, R86). -/
def frameWord (bits : List Bool) (m : Nat) : Word := wordOfBits ((bits.drop (24 * m)).take 24)

/-- `WCFG v` (R72). -/
def wcfgEvents (v : Word) : List Instr := xferEvents 1#3 (wordBits v)

/-- `IDLECLK n` (R72). -/
def idleClkEvents : Nat → List Instr
  | 0 => []
  | n + 1 => .rise :: .fall :: idleClkEvents n

/-- The items that spell a sequence of events (R72's encodings). -/
def encodeAll (l : List Instr) : List Item := l.map encode

/-- Run a sequence of instructions, stopping at the first that gives no next state. -/
def runEvents : List Instr → State → Host.Outcome State Fault Refusal
  | [], s => .next s
  | i :: is, s =>
    match exec i s with
    | .next s' => runEvents is s'
    | .fault r => .fault r
    | .refused r => .refused r

/-- What `f` shows at each RISE of a sequence, in the state that RISE starts from (R72, R143). -/
def sampledAtRise {α : Type} (f : State → α) : List Instr → State → List α
  | [], _ => []
  | i :: is, s =>
    (if i = .rise then [f s] else []) ++
      match exec i s with
      | .next s' => sampledAtRise f is s'
      | .fault _ => []
      | .refused _ => []

/-- The read word: the values of `out.sdo` the master samples (R72). -/
def readWord (l : List Instr) (s : State) : List Level := sampledAtRise State.outSdo l s

/-- The read-back word: the values of `out.rb_sdo` the master samples (R135). -/
def readbackWord (l : List Instr) (s : State) : List (Option Bool) := sampledAtRise State.rbSdo l s

end Sys2Proof.Machine
end

