-- ==== Sys2Proof/Safety.lean ====
section
/-! DEFINITION. The terms claims use: the invariants of R154, the launch premises of R182, quiescence (R183), and what a
transaction of the SR starts from. -/

namespace Sys2Proof.Machine

open Sys2Proof

/-- R154.1: while the SR is not selected its fresh flag is set and, in LATER, its counter is full. -/
abbrev State.SrArmed (s : State) : Prop :=
  s.selCfg = false → s.fresh = true ∧ (s.profile = .later → s.cnt = 23#5)

/-- R154.2: the counter is in 0 to 23. -/
abbrev State.CountInRange (s : State) : Prop := s.cnt.toNat ≤ 23

/-- R154.3: in LATER the SISO is armed in phase A, and while nothing is selected. -/
abbrev State.SisoArmed (s : State) : Prop :=
  s.profile = .later → (s.phaseA = true → s.sisoFresh = true) ∧ (s.inp.code = 0#3 → s.sisoFresh = true)

/-- R154.4: in LATER the phase is A while the enable bit is clear. -/
abbrev State.PhaseFollowsEnable (s : State) : Prop :=
  s.profile = .later → s.cfg.rbEn = false → s.rbPhase = .a

/-- The invariants of R154 about one state (R154.1 to R154.4). -/
abbrev State.Inv (s : State) : Prop :=
  s.SrArmed ∧ s.CountInRange ∧ s.SisoArmed ∧ s.PhaseFollowsEnable

/-- No transaction is open and the clock is low (R182, R183). -/
abbrev State.Quiescent (s : State) : Prop := s.inp.code = 0#3 ∧ s.inp.sck = false

/-- Everything in the state that one phase-B or device transaction must leave alone in the SR (R82, R134). -/
abbrev State.SameSr (s t : State) : Prop :=
  t.sr = s.sr ∧ t.sdo = s.sdo ∧ t.fresh = s.fresh ∧ t.cnt = s.cnt ∧ t.pdi = s.pdi

/-- The read-back state of LATER, unchanged. -/
abbrev State.SameReadback (s t : State) : Prop :=
  t.rbPhase = s.rbPhase ∧ t.rbCap = s.rbCap ∧ t.siso = s.siso ∧ t.sisoOut = s.sisoOut ∧ t.sisoFresh = s.sisoFresh

/-- The parameters of the build and what remains of the trace, unchanged. -/
abbrev State.SameParameters (s t : State) : Prop :=
  t.profile = s.profile ∧ t.protoRev = s.protoRev ∧ t.pending = s.pending

/-- The revision is that of a build of the state's profile (R122, log 2). -/
abbrev State.RevisionOfBuild (s : State) : Prop := s.protoRev = Config.protoRev s.profile

/-- The straps, unchanged (R20). -/
abbrev State.SameStraps (s t : State) : Prop :=
  t.inp.en9910 = s.inp.en9910 ∧ t.inp.enNu = s.inp.enNu ∧ t.inp.enEem1 = s.inp.enEem1 ∧ t.inp.strapRsv = s.inp.strapRsv

/-- The `SEL` event of code `c` starts, or goes on with, a phase-A transaction: always in BASE; in LATER when no selection
ends with it and the phase is A, or one ends and the phase it flips to, or is cleared to, is A (R125, R126, R144). -/
abbrev State.EntersPhaseA (s : State) (c : Code) : Prop :=
  s.profile = .base ∨
    (if s.inp.code = 0#3 ∨ s.inp.code = c then s.rbPhase = .a else s.cfg.rbEn = true → s.rbPhase = .b)

/-- The `SEL` event of code `c` starts, or goes on with, a phase-B transaction: in LATER with the enable bit set, when no
selection ends with it and the phase is B, or one ends and the phase it flips is A (R125, R144). -/
abbrev State.EntersPhaseB (s : State) (c : Code) : Prop :=
  s.profile = .later ∧ s.cfg.rbEn = true ∧
    (if s.inp.code = 0#3 ∨ s.inp.code = c then s.rbPhase = .b else s.rbPhase = .a)

end Sys2Proof.Machine
end

