-- ==== Sys2Proof/Certificates/Slice0/Obligations.lean ====
section
/-! DEFINITION. The statements about the model, from the numbered rules of spec/. -/

open Sys2Proof Sys2Proof.Machine

/-! ### Power-up -/

/-- R180: what power-up leaves, for every profile, launch levels and contents left at `X`, with the revision of the profile's
build (R122); and `State.reset` is such a state, of the default profile BASE (R7). -/
def Obligations.PowerUpState : Prop :=
  (∀ (p : Profile) (lv : Inputs) (x : PowerUpContents),
    let s := State.powerUp p lv x
    s.profile = p ∧ s.protoRev = Config.protoRev p ∧ s.pdi = 0#24 ∧ s.fresh = true ∧ s.cnt = 23#5 ∧ s.rbPhase = .a ∧ s.sisoFresh = true ∧
      s.sr = x.sr ∧ s.sdo = x.sdo ∧ s.rbCap = x.rbCap ∧ s.siso = x.siso ∧ s.sisoOut = x.sisoOut ∧
      s.inp = { lv with sck := false, code := 0#3 } ∧
      s.outputs.rfSw = lv.sw ∧
      s.outputs.ledR = (if lv.en9910 then lv.smpErr ||| ~~~lv.pllLock else 0#4) ∧
      s.outputs.ledG = lv.sw ∧ s.outputs.ddsProfile = 0#3 ∧ s.outputs.ddsIoUpdate = false ∧
      s.outputs.ddsRst = false ∧ s.outputs.ddsIoRst = false ∧ s.outputs.attRst = false ∧
      s.outputs.clkSel = 0#2 ∧ s.outputs.syncSel = false ∧
      s.outputs.clkDiv = (match p with | .base => none | .later => some 0#2) ∧
      s.outputs.attLe = true ∧ (∀ i, s.shared i = true ∧ s.bcast i = true) ∧ s.cfg.rbEn = false) ∧
  ∃ lv x, State.reset = State.powerUp .base lv x

/-- R154 at power-up: the four invariants about one state hold in every power-up state, and in `State.reset`. -/
def Obligations.PowerUpMeetsInvariants : Prop :=
  (∀ (p : Profile) (lv : Inputs) (x : PowerUpContents), (State.powerUp p lv x).Inv) ∧ State.reset.Inv

/-- R122: a model of both profiles gives them different revisions, every power-up state has the revision of its profile, and
so the revision field of the STATUS word tells the two profiles apart. The values are free (log 2). -/
def Obligations.ProfilesHaveDifferentRevisions : Prop :=
  Config.protoRev .base ≠ Config.protoRev .later ∧
  (∀ (p : Profile) (lv : Inputs) (x : PowerUpContents), (State.powerUp p lv x).RevisionOfBuild) ∧
  (∀ s t : State, s.RevisionOfBuild → t.RevisionOfBuild → s.profile ≠ t.profile →
    s.status.extractLsb' 16 7 ≠ t.status.extractLsb' 16 7)

/-! ### Steps and words -/

/-- R151: a step whose head item spells an instruction is that instruction's meaning, with the item taken off the trace. -/
def Obligations.StepRunsDecodedItem : Prop :=
  ∀ (s : State) (it : Item) (rest : List Item) (i : Instr),
    s.pending = it :: rest → decodeItem it = .instr i → step s = exec i { s with pending := rest }

/-- R65: a word of R62's reserved kinds, or with a payload bit R62 shows as 0, spells no event, and a step that meets it is
refused. -/
def Obligations.WordsThatSpellNoEventAreRefused : Prop :=
  ∀ (s : State) (w : EventWord) (r : EnvRecord) (rest : List Item),
    s.pending = .event w r :: rest →
    (w.extractLsb' 5 3 = 0b101#3 ∨ w.extractLsb' 5 3 = 0b110#3 ∨ w.extractLsb' 5 3 = 0b111#3 ∨
      (w.extractLsb' 5 3 = 0b000#3 ∧ w.extractLsb' 0 5 ≠ 0#5) ∨
      (w.extractLsb' 5 3 = 0b001#3 ∧ w.extractLsb' 0 5 ≠ 0#5) ∨
      (w.extractLsb' 5 3 = 0b010#3 ∧ w.extractLsb' 3 2 ≠ 0#2) ∨
      (w.extractLsb' 5 3 = 0b011#3 ∧ w.extractLsb' 1 4 ≠ 0#4) ∨
      (w.extractLsb' 5 3 = 0b100#3 ∧ w.extractLsb' 0 5 ≠ 0#5)) →
    (∃ e, decodeItem (.event w r) = .invalid e ∧ step s = .refused (.notAnEvent e))

/-- R183, R186: with no event to come the core stays as it is, which is no fault. -/
def Obligations.NothingPendingKeepsTheState : Prop :=
  ∀ s : State, s.pending = [] → step s = .next s

/-- R62, R66: words written out from the tables decode to what they stand for. -/
def Obligations.WordsOfTheTablesDecode : Prop :=
  decodeItem (.event 0b00000000#8 EnvRecord.empty) = .instr .rise ∧
  decodeItem (.event 0b00100000#8 EnvRecord.empty) = .instr .fall ∧
  decodeItem (.event 0b01000101#8 EnvRecord.empty) = .instr (.sel 5#3) ∧
  decodeItem (.event 0b01100001#8 EnvRecord.empty) = .instr (.sdi true) ∧
  decodeItem (.event 0b10000000#8 { pllLock := some 0b0111#4 }) = .instr (.env { pllLock := some 0b0111#4 }) ∧
  decodeItem (.selector 0b0000#4) = .instr (.idle false) ∧ decodeItem (.selector 0b1000#4) = .instr (.idle true) ∧
  decodeItem (.selector 0b0001#4) = .instr .cfgSel ∧ decodeItem (.selector 0b0011#4) = .instr .broadcastSel ∧
  decodeItem (.selector 0b0110#4) = .instr .dev2Sel ∧ decodeItem (.selector 0b1001#4) = .instr .rbCfg ∧
  decodeItem (.selector 0b1011#4) = .instr .rbBcast ∧ decodeItem (.selector 0b1111#4) = .instr .rbDev3

/-- Decoding the encoding of a well-formed instruction gives it back, every operand at every value. -/
def Obligations.DecodeOfEncode : Prop :=
  ∀ i : Instr, i.wellFormed = true → decodeItem (encode i) = .instr i

/-- Each instruction has one encoding: an item that decodes to it is it. -/
def Obligations.EncodeOfDecode : Prop :=
  ∀ (it : Item) (i : Instr), decodeItem it = .instr i → encode i = it

/-! ### Clock edges -/

/-- R76 (with R75, R77): RISE in BASE, the whole next state: the sample edge of a selected SR, and nothing but the clock
level while it is not selected. -/
def Obligations.RiseInBase : Prop :=
  ∀ s : State, s.profile = .base → s.inp.sck = false →
    exec .rise s = .next (
      if s.inp.code = 1#3 then
        { s with
          sr := (if s.fresh then s.status else s.sr).extractLsb' 0 23 ++ BitVec.ofBool s.inp.sdi
          fresh := false
          inp := { s.inp with sck := true } }
      else { s with inp := { s.inp with sck := true } })

/-- R78 (with R128): the sample edge of a selected SR in LATER, the whole next state: the last one of a frame latches the
completed word and reloads the SR, another only shifts and counts down; the capture takes the serial-out bit. -/
def Obligations.RiseInLaterCfgTransaction : Prop :=
  ∀ s : State, s.profile = .later → s.rbPhase = .a → s.inp.code = 1#3 → s.inp.sck = false →
    let v : Word := (if s.fresh then s.status else s.sr).extractLsb' 0 23 ++ BitVec.ofBool s.inp.sdi
    exec .rise s = .next (
      if s.cnt = 0#5 then
        { s with
          pdi := v, sr := s.status, cnt := 23#5, fresh := false
          rbCap := s.rbCap.extractLsb' 0 7 ++ BitVec.ofBool s.sdo, inp := { s.inp with sck := true } }
      else
        { s with
          sr := v, cnt := s.cnt - 1#5, fresh := false
          rbCap := s.rbCap.extractLsb' 0 7 ++ BitVec.ofBool s.sdo, inp := { s.inp with sck := true } })

/-- R128 for the codes of the devices: the capture takes `out.sdo`, and nothing else but the clock level changes; an `X` is
captured as a free bit, a fresh one each time (the model's form of R10, log 5). -/
def Obligations.RiseInLaterDeviceTransaction : Prop :=
  ∀ s : State, s.profile = .later → s.rbPhase = .a → s.inp.code ≠ 0#3 → s.inp.code ≠ 1#3 → s.inp.sck = false →
    exec .rise s = .next (
      match s.outSdo with
      | .known b =>
        { s with rbCap := s.rbCap.extractLsb' 0 7 ++ BitVec.ofBool b, inp := { s.inp with sck := true } }
      | .x =>
        { s with
          rbCap := s.rbCap.extractLsb' 0 7 ++ BitVec.ofBool (Config.freeBit s.draws)
          draws := s.draws + 1, inp := { s.inp with sck := true } })

/-- R130 with R129: the SISO's sample edge in phase B, the whole next state; elsewhere the SISO is left alone. The enable bit
is set in phase B (R154.4). -/
def Obligations.RiseInPhaseB : Prop :=
  (∀ s : State, s.profile = .later → s.rbPhase = .b → s.cfg.rbEn = true → s.inp.code ≠ 0#3 → s.inp.sck = false →
    exec .rise s = .next (
      if s.sisoFresh then
        { s with
          siso := (if s.inp.code = 1#3 then s.protoRev.setWidth 23
                   else if s.inp.code = 3#3 then s.inp.pllLock.setWidth 23
                   else s.rbCap.setWidth 23)
          sisoFresh := false, inp := { s.inp with sck := true } }
      else
        { s with siso := s.siso.extractLsb' 0 22 ++ 0#1, inp := { s.inp with sck := true } })) ∧
  (∀ s : State, (s.profile = .base ∨ s.rbPhase = .a ∨ s.inp.code = 0#3) → s.inp.sck = false →
    ∃ t, exec .rise s = .next t ∧ t.siso = s.siso ∧ t.sisoFresh = s.sisoFresh)

/-- R79: the shift edge of a selected SR, both profiles, the whole next state; while it is not selected its serial-out
register keeps its value. -/
def Obligations.FallInCfgTransaction : Prop :=
  (∀ s : State, s.selCfg = true → s.PhaseFollowsEnable → s.inp.sck = true →
    exec .fall s = .next { s with sdo := s.sr.getLsbD 23, inp := { s.inp with sck := false } }) ∧
  (∀ s : State, s.selCfg = false → s.inp.sck = true → ∃ t, exec .fall s = .next t ∧ t.sdo = s.sdo)

/-- R131: the SISO's shift edge in phase B, the whole next state; elsewhere its serial-out register keeps its value. -/
def Obligations.FallInPhaseB : Prop :=
  (∀ s : State, s.profile = .later → s.rbPhase = .b → s.cfg.rbEn = true → s.inp.code ≠ 0#3 → s.inp.sck = true →
    exec .fall s = .next { s with sisoOut := s.siso.getLsbD 22, inp := { s.inp with sck := false } }) ∧
  (∀ s : State, (s.profile = .base ∨ s.rbPhase = .a ∨ s.inp.code = 0#3) → s.inp.sck = true →
    ∃ t, exec .fall s = .next t ∧ t.sisoOut = s.sisoOut)

/-- Where neither the SR nor the read-back machine acts, a clock edge changes the clock level alone: RISE at code 0; FALL
there and at every device code in phase A (R82, R101, R147). -/
def Obligations.ClockEdgesElsewhere : Prop :=
  ∀ s : State, s.PhaseFollowsEnable →
    (s.inp.code = 0#3 → s.inp.sck = false → exec .rise s = .next { s with inp := { s.inp with sck := true } }) ∧
    ((s.inp.code = 0#3 ∨ (s.inp.code ≠ 1#3 ∧ s.phaseA = true)) → s.inp.sck = true →
      exec .fall s = .next { s with inp := { s.inp with sck := false } })

/-- R82: while the SR is not selected, RISE and FALL change none of its registers, in any state of either profile. -/
def Obligations.ClockEdgesLeaveUnselectedSr : Prop :=
  ∀ s : State, s.selCfg = false →
    (s.inp.sck = false → ∃ t, exec .rise s = .next t ∧ s.SameSr t) ∧
    (s.inp.sck = true → ∃ t, exec .fall s = .next t ∧ s.SameSr t)

/-- R63: a repeated edge is refused; SEL of the current code and SDI of the current level are legal and change nothing. -/
def Obligations.RepeatedEdgesAndLevels : Prop :=
  ∀ s : State,
    (s.inp.sck = true → exec .rise s = .refused .riseWithClockHigh) ∧
    (s.inp.sck = false → exec .fall s = .refused .fallWithClockLow) ∧
    exec (.sel s.inp.code) s = .next s ∧
    (s.PhaseFollowsEnable → exec (.sdi s.inp.sdi) s = .next s)

/-! ### Select, data and environment -/

/-- R80: the deassertion of the SR in BASE, the whole next state. -/
def Obligations.SelEndsBaseCfgTransaction : Prop :=
  ∀ (s : State) (c : Code), s.profile = .base → s.inp.code = 1#3 → c ≠ 1#3 →
    exec (.sel c) s = .next { s with
      pdi := (if s.fresh then s.pdi else s.sr), fresh := true, inp := { s.inp with code := c } }

/-- R81 with R125: the deassertion of the SR in LATER, the whole next state: nothing latches, the frame starts anew, and
the phase flips when the enable bit is set. -/
def Obligations.SelEndsLaterCfgTransaction : Prop :=
  ∀ (s : State) (c : Code), s.profile = .later → s.rbPhase = .a → s.inp.code = 1#3 → c ≠ 1#3 →
    exec (.sel c) s = .next { s with
      fresh := true, cnt := 23#5, rbPhase := (if s.cfg.rbEn then .b else .a), inp := { s.inp with code := c } }

/-- R125 for the devices' codes in phase A of LATER, the whole next state. -/
def Obligations.SelEndsLaterDeviceTransaction : Prop :=
  ∀ (s : State) (c : Code), s.profile = .later → s.rbPhase = .a → s.inp.code ≠ 0#3 → s.inp.code ≠ 1#3 → c ≠ s.inp.code →
    exec (.sel c) s = .next { s with
      rbPhase := (if s.cfg.rbEn then .b else .a), inp := { s.inp with code := c } }

/-- R132 with R125: the end of a phase-B transaction, the whole next state: the SISO is armed again and the phase is A. -/
def Obligations.SelEndsPhaseBTransaction : Prop :=
  ∀ (s : State) (c : Code), s.profile = .later → s.rbPhase = .b → s.cfg.rbEn = true → s.inp.code ≠ 0#3 → c ≠ s.inp.code →
    exec (.sel c) s = .next { s with sisoFresh := true, rbPhase := .a, inp := { s.inp with code := c } }

/-- R148: assertion from code 0, and in BASE the end of a device's transaction, write the code and nothing else. -/
def Obligations.SelThatWritesTheCodeAlone : Prop :=
  ∀ (s : State) (c : Code), s.PhaseFollowsEnable → (s.inp.code = 0#3 ∨ (s.profile = .base ∧ s.inp.code ≠ 1#3)) →
    exec (.sel c) s = .next { s with inp := { s.inp with code := c } }

/-- The frame of SEL and of every selector: where one of them gives a next state, the shift registers, the serial-out
registers, the capture, every input level but the code, the parameters and the free draws are as before (R145). -/
def Obligations.SelectChangesFrame : Prop :=
  ∀ (i : Instr) (s t : State),
    ((∃ c, i = .sel c) ∨ (∃ p, i = .idle p) ∨
      i ∈ [.cfgSel, .attSel, .broadcastSel, .dev0Sel, .dev1Sel, .dev2Sel, .dev3Sel, .rbCfg, .rbAtt, .rbBcast, .rbDev0,
        .rbDev1, .rbDev2, .rbDev3]) →
    exec i s = .next t →
      t.sr = s.sr ∧ t.sdo = s.sdo ∧ t.rbCap = s.rbCap ∧ t.siso = s.siso ∧ t.sisoOut = s.sisoOut ∧
        t.inp = { s.inp with code := t.inp.code } ∧ s.SameParameters t ∧ t.draws = s.draws

/-- R149: SDI writes the serial-in level and nothing else, and the outputs that follow it follow it in the same step. -/
def Obligations.SdiSetsSerialIn : Prop :=
  ∀ (s : State) (b : Bool), s.PhaseFollowsEnable →
    ∃ t, exec (.sdi b) s = .next t ∧ t = { s with inp := { s.inp with sdi := b } } ∧
      t.outputs.attSdi = b ∧ (∀ i : Channel, t.shared i = true → t.outputs.ddsSdi.getLsbD i.val = b)

/-- R150: a legal ENV gives every input its record names its new level and changes nothing else. -/
def Obligations.EnvSetsNamedInputs : Prop :=
  ∀ (s : State) (r : EnvRecord), s.PhaseFollowsEnable → r.namesBusLine = false → r.namesStrap = false →
    ∃ x : Inputs, exec (.env r) s = .next { s with inp := x } ∧
      x.auxSck = r.auxSck.getD s.inp.auxSck ∧ x.auxCs = r.auxCs.getD s.inp.auxCs ∧
      x.auxSdi = r.auxSdi.getD s.inp.auxSdi ∧ x.sw = r.sw.getD s.inp.sw ∧
      x.smpErr = r.smpErr.getD s.inp.smpErr ∧ x.pllLock = r.pllLock.getD s.inp.pllLock ∧
      x.ddsSdo = r.ddsSdo.getD s.inp.ddsSdo ∧ x.attSdo = r.attSdo.getD s.inp.attSdo ∧
      x.sck = s.inp.sck ∧ x.sdi = s.inp.sdi ∧ x.code = s.inp.code ∧
      x.en9910 = s.inp.en9910 ∧ x.enNu = s.inp.enNu ∧ x.enEem1 = s.inp.enEem1 ∧ x.strapRsv = s.inp.strapRsv

/-- R64: an ENV whose record names the clock, the serial-in line, the code or a strap is refused. -/
def Obligations.EnvRefusesForbiddenInputs : Prop :=
  ∀ (s : State) (r : EnvRecord),
    (r.sck ≠ none ∨ r.sdi ≠ none ∨ r.code ≠ none ∨ r.en9910 ≠ none ∨ r.enNu ≠ none ∨ r.enEem1 ≠ none ∨
      r.strapRsv ≠ none) →
    exec (.env r) s = .refused .envNamesBusLine ∨ exec (.env r) s = .refused .envNamesStrap

/-! ### Transaction selectors -/

/-- R101 (a selector's meaning is its entering SEL, log 7): IDLE is entered from every state by SEL 0; while it is current
nothing is selected, `out.sdo` is `X`, the attenuator clock is 0, and clock edges change the clock level alone. -/
def Obligations.IdleSelector : Prop :=
  ∀ (p : Bool) (s : State), s.PhaseFollowsEnable →
    ∃ t, exec (.idle p) s = .next t ∧ exec (.sel 0#3) s = .next t ∧
      t.inp.code = 0#3 ∧ t.selCfg = false ∧ t.selAtt = false ∧ (∀ i, t.selDds i = false) ∧
      t.outputs.attSck = false ∧ t.outputs.sdo = .x ∧
      (t.inp.sck = false → exec .rise t = .next { t with inp := { t.inp with sck := true } }) ∧
      (t.inp.sck = true → exec .fall t = .next { t with inp := { t.inp with sck := false } })

/-- R102 (log 7): CFG_SEL is entered by SEL 1 in phase A; while it is current the SR alone is selected and `out.sdo` is its
serial-out register. -/
def Obligations.CfgSelector : Prop :=
  ∀ s : State, s.EntersPhaseA 1#3 →
    ∃ t, exec .cfgSel s = .next t ∧ exec (.sel 1#3) s = .next t ∧ t.sel4 = 0b0001#4 ∧
      t.selCfg = true ∧ t.selAtt = false ∧ (∀ i, t.selDds i = false) ∧ t.outputs.sdo = .known t.sdo

/-- R103 (log 7): ATT_SEL is entered by SEL 2 in phase A; while it is current the chain alone is selected, its lines carry the
shared clock and data, and its serial-out is on the shared line. -/
def Obligations.AttSelector : Prop :=
  ∀ s : State, s.EntersPhaseA 2#3 →
    ∃ t, exec .attSel s = .next t ∧ exec (.sel 2#3) s = .next t ∧ t.sel4 = 0b0010#4 ∧
      t.selAtt = true ∧ t.outputs.attCs = true ∧ t.outputs.attLe = false ∧ t.outputs.attSck = t.inp.sck ∧
      t.outputs.attSdi = t.inp.sdi ∧ t.outputs.sdo = .known t.inp.attSdo ∧ t.selCfg = false ∧ (∀ i, t.selDds i = false)

/-- R104 (log 7): BROADCAST_SEL is entered by SEL 3 in phase A; while it is current exactly the unmasked channels are selected and
`out.sdo` is the serial-out of the lowest of them, `X` when there is none. -/
def Obligations.BroadcastSelector : Prop :=
  ∀ s : State, s.EntersPhaseA 3#3 →
    ∃ t, exec .broadcastSel s = .next t ∧ exec (.sel 3#3) s = .next t ∧ t.sel4 = 0b0011#4 ∧
      (∀ i, t.selDds i = !t.mask i) ∧ t.selCfg = false ∧ t.selAtt = false ∧
      (∀ j : Channel, t.mask j = false → (∀ i : Channel, i < j → t.mask i = true) →
        t.outputs.sdo = .known (t.inp.ddsSdo.getLsbD j.val)) ∧
      ((∀ i, t.mask i = true) → t.outputs.sdo = .x)

/-- R105 to R108 (log 7): DEVi_SEL is entered by SEL 4 + i in phase A; while it is current channel i alone is selected, if it is on
the shared path, and `out.sdo` is its serial-out, else `X`. -/
def Obligations.DeviceSelectors : Prop :=
  ∀ (d : Instr) (i : Channel) (c : Code),
    (d, i, c) ∈ ([(.dev0Sel, 0, 4#3), (.dev1Sel, 1, 5#3), (.dev2Sel, 2, 6#3), (.dev3Sel, 3, 7#3)] :
      List (Instr × Channel × Code)) →
    ∀ s : State, s.EntersPhaseA c →
      ∃ t, exec d s = .next t ∧ exec (.sel c) s = .next t ∧ t.sel4 = 0#1 ++ c ∧
        t.selDds i = t.shared i ∧ (∀ j, j ≠ i → t.selDds j = false) ∧ t.selCfg = false ∧ t.selAtt = false ∧
        t.outputs.sdo = (if t.shared i then .known (t.inp.ddsSdo.getLsbD i.val) else .x)

/-- R136 to R142 (log 7): a read-back selector is entered by SEL of its code in phase B; while it is current no device and not the
SR is selected, the attenuator clock is 0, and the first sample edge loads the selector's source, zero-extended. -/
def Obligations.ReadbackSelectors : Prop :=
  ∀ (d : Instr) (c : Code) (source : State → SisoWord),
    (d = .rbCfg ∧ c = 1#3 ∧ source = (fun s => s.protoRev.setWidth 23) ∨
      d = .rbAtt ∧ c = 2#3 ∧ source = (fun s => s.rbCap.setWidth 23) ∨
      d = .rbBcast ∧ c = 3#3 ∧ source = (fun s => s.inp.pllLock.setWidth 23) ∨
      d = .rbDev0 ∧ c = 4#3 ∧ source = (fun s => s.rbCap.setWidth 23) ∨
      d = .rbDev1 ∧ c = 5#3 ∧ source = (fun s => s.rbCap.setWidth 23) ∨
      d = .rbDev2 ∧ c = 6#3 ∧ source = (fun s => s.rbCap.setWidth 23) ∨
      d = .rbDev3 ∧ c = 7#3 ∧ source = (fun s => s.rbCap.setWidth 23)) →
    ∀ s : State, s.EntersPhaseB c →
      ∃ t, exec d s = .next t ∧ exec (.sel c) s = .next t ∧ t.sel4 = 1#1 ++ c ∧
        t.selCfg = false ∧ t.selAtt = false ∧ (∀ i, t.selDds i = false) ∧ t.outputs.attSck = false ∧
        (t.inp.sck = false → t.sisoFresh = true →
          exec .rise t =
            .next { t with siso := source t, sisoFresh := false, inp := { t.inp with sck := true } })

/-- R67 with R66: in BASE the read-back selectors cannot occur; entering one is refused, under the model's own refusal
(log 7). -/
def Obligations.BaseHasNoReadbackSelectors : Prop :=
  ∀ s : State, s.profile = .base →
    exec .rbCfg s = .refused (.selectorNotEntered 0b1001#4) ∧ exec .rbAtt s = .refused (.selectorNotEntered 0b1010#4) ∧
    exec .rbBcast s = .refused (.selectorNotEntered 0b1011#4) ∧ exec .rbDev0 s = .refused (.selectorNotEntered 0b1100#4) ∧
    exec .rbDev1 s = .refused (.selectorNotEntered 0b1101#4) ∧ exec .rbDev2 s = .refused (.selectorNotEntered 0b1110#4) ∧
    exec .rbDev3 s = .refused (.selectorNotEntered 0b1111#4) ∧ s.sel4 = 0#1 ++ s.inp.code

/-! ### Router, configuration and status -/

/-- R100: in phase A codes 1 and 2 select exactly the SR or the chain, code 4 + i exactly channel i where it is on the
shared path and nothing where it is not, code 0 nothing, code 3 every unmasked channel. -/
def Obligations.RoutingIsExclusive : Prop :=
  ∀ s : State, s.phaseA = true →
    (s.selCfg = true ↔ s.inp.code = 1#3) ∧ (s.selAtt = true ↔ s.inp.code = 2#3) ∧
    (∀ i, s.selDds i = true ↔
      (s.inp.code = 3#3 ∧ s.mask i = false) ∨
        (s.inp.code = BitVec.ofNat 3 (4 + i.val) ∧ (s.inp.enNu = false ∨ s.mask i = false))) ∧
    (s.inp.code ≠ 3#3 → ∀ i j, s.selDds i = true → s.selDds j = true → i = j)

/-- R89: the phase is A in BASE, and in LATER where the read-back phase is A; in phase B no device and not the SR is selected
by any code. -/
def Obligations.PhaseBSelectsNothing : Prop :=
  ∀ s : State,
    (s.phaseA = true ↔ s.profile = .base ∨ s.rbPhase = .a) ∧
    (s.phaseA = false →
      s.selCfg = false ∧ s.selAtt = false ∧ (∀ i, s.selDds i = false) ∧
      s.outputs.attCs = false ∧ s.outputs.attSck = false ∧
      (∀ i : Channel, s.shared i = true → s.outputs.ddsCs.getLsbD i.val = false))

/-- R91, R94, R95: with `en_nu` set a masked channel's lines are the auxiliary bus's; every other channel's are the shared
bus's, ungated. -/
def Obligations.AuxiliaryPathBypass : Prop :=
  ∀ (s : State) (i : Channel),
    (s.inp.enNu = true ∧ s.mask i = true →
      s.outputs.ddsCs.getLsbD i.val = s.inp.auxCs ∧ s.outputs.ddsSck.getLsbD i.val = s.inp.auxSck ∧
        s.outputs.ddsSdi.getLsbD i.val = s.inp.auxSdi.getLsbD i.val) ∧
    (¬(s.inp.enNu = true ∧ s.mask i = true) →
      s.outputs.ddsCs.getLsbD i.val = s.selDds i ∧ s.outputs.ddsSck.getLsbD i.val = s.inp.sck ∧
        s.outputs.ddsSdi.getLsbD i.val = s.inp.sdi)

/-- R98: the serial-out multiplexer, code by code; it does not depend on the phase. -/
def Obligations.SerialOutMultiplexer : Prop :=
  ∀ s : State,
    (s.inp.code = 0#3 → s.outputs.sdo = .x) ∧ (s.inp.code = 1#3 → s.outputs.sdo = .known s.sdo) ∧
    (s.inp.code = 2#3 → s.outputs.sdo = .known s.inp.attSdo) ∧
    (s.inp.code = 3#3 → ∀ j : Channel, s.mask j = false → (∀ i : Channel, i < j → s.mask i = true) →
      s.outputs.sdo = .known (s.inp.ddsSdo.getLsbD j.val)) ∧
    (s.inp.code = 3#3 → (∀ i, s.mask i = true) → s.outputs.sdo = .x) ∧
    (∀ i : Channel, s.inp.code = BitVec.ofNat 3 (4 + i.val) →
      s.outputs.sdo = if s.shared i then .known (s.inp.ddsSdo.getLsbD i.val) else .x) ∧
    (∀ p : Phase, ({ s with rbPhase := p } : State).outputs.sdo = s.outputs.sdo)

/-- R34 (BASE) with R110 to R117: every field's bits and the outputs they drive. -/
def Obligations.BaseConfigurationDrivesOutputs : Prop :=
  ∀ s : State, s.profile = .base →
    s.outputs.rfSw = s.pdi.extractLsb' 0 4 ||| s.inp.sw ∧ s.outputs.ledG = s.outputs.rfSw ∧
    s.outputs.ledR = s.pdi.extractLsb' 4 4 ||| (if s.inp.en9910 then s.inp.smpErr ||| ~~~s.inp.pllLock else 0#4) ∧
    s.outputs.ddsProfile = s.pdi.extractLsb' 8 3 ∧ (∀ i : Channel, s.mask i = s.pdi.getLsbD (11 + i.val)) ∧
    s.outputs.ddsIoUpdate = s.pdi.getLsbD 15 ∧ s.outputs.clkSel = (s.pdi.extractLsb' 16 1).setWidth 2 ∧
    s.outputs.syncSel = s.pdi.getLsbD 17 ∧ s.outputs.ddsRst = s.pdi.getLsbD 18 ∧ s.outputs.attRst = s.pdi.getLsbD 18 ∧
    s.outputs.ddsIoRst = s.pdi.getLsbD 19 ∧ s.outputs.clkDiv = none ∧ s.outputs.rbSdo = none ∧ s.cfg.rbEn = false

/-- R35 (LATER) with R110 to R117 and R133: every field's bits and the outputs they drive. -/
def Obligations.LaterConfigurationDrivesOutputs : Prop :=
  ∀ s : State, s.profile = .later →
    s.outputs.rfSw = s.pdi.extractLsb' 0 4 ||| s.inp.sw ∧ s.outputs.ledG = s.outputs.rfSw ∧
    s.outputs.ledR = s.pdi.extractLsb' 4 4 ||| (if s.inp.en9910 then s.inp.smpErr ||| ~~~s.inp.pllLock else 0#4) ∧
    s.outputs.ddsProfile = s.pdi.extractLsb' 8 3 ∧ (∀ i : Channel, s.mask i = s.pdi.getLsbD (11 + i.val)) ∧
    s.outputs.ddsIoUpdate = s.pdi.getLsbD 15 ∧ s.outputs.clkSel = s.pdi.extractLsb' 16 2 ∧
    s.outputs.syncSel = s.pdi.getLsbD 18 ∧ s.outputs.ddsRst = s.pdi.getLsbD 19 ∧ s.outputs.attRst = s.pdi.getLsbD 19 ∧
    s.outputs.ddsIoRst = s.pdi.getLsbD 20 ∧ s.outputs.clkDiv = some (s.pdi.extractLsb' 21 2) ∧
    s.outputs.rbSdo = some s.sisoOut ∧ s.cfg.rbEn = s.pdi.getLsbD 23

/-- R36: BASE's reserved configuration bits drive nothing: two states that differ only there have the same outputs, the same
STATUS word and the same selects. -/
def Obligations.ReservedBitsDriveNothing : Prop :=
  ∀ (s : State) (v : Word), s.profile = .base → v.extractLsb' 0 20 = s.pdi.extractLsb' 0 20 →
    ({ s with pdi := v } : State).outputs = s.outputs ∧ ({ s with pdi := v } : State).status = s.status ∧
      (∀ i, ({ s with pdi := v } : State).selDds i = s.selDds i)

/-- R38 with R119: the fields of the STATUS word. -/
def Obligations.StatusWordLayout : Prop :=
  ∀ s : State,
    s.status.extractLsb' 0 4 = s.outputs.rfSw ∧ s.status.extractLsb' 4 4 = s.inp.smpErr ∧
    s.status.extractLsb' 8 4 = s.inp.pllLock ∧ s.status.getLsbD 12 = s.inp.en9910 ∧ s.status.getLsbD 13 = s.inp.enNu ∧
    s.status.getLsbD 14 = s.inp.enEem1 ∧ s.status.getLsbD 15 = s.inp.strapRsv ∧
    s.status.extractLsb' 16 7 = s.protoRev ∧ s.status.getLsbD 23 = false

/-! ### Whole-machine rules -/

/-- R154.1 to R154.4: every step keeps the invariants, from every state that has them. -/
def Obligations.StepKeepsInvariants : Prop :=
  ∀ s t : State, s.Inv → step s = .next t → t.Inv

/-- R20, R7, R122: no step changes a strap, the profile or the protocol revision, so the revision stays that of the build. -/
def Obligations.StepKeepsStrapsAndBuild : Prop :=
  ∀ s t : State, step s = .next t →
    s.SameStraps t ∧ t.profile = s.profile ∧ t.protoRev = s.protoRev ∧ (s.RevisionOfBuild → t.RevisionOfBuild)

/-- R154.6: the configuration register changes only at the BASE deassertion of code 1 after a sample edge, which copies the
SR, or at the LATER sample edge that ends a frame of a selected SR. -/
def Obligations.ConfigurationChangesOnlyByLatch : Prop :=
  ∀ (i : Instr) (s t : State), exec i s = .next t → t.pdi ≠ s.pdi →
    (s.profile = .base ∧ s.selCfg = true ∧ t.inp.code ≠ 1#3 ∧ s.fresh = false ∧ t.pdi = s.sr) ∨
    (s.profile = .later ∧ s.selCfg = true ∧ i = .rise ∧ s.cnt = 0#5)

/-- R154.5, R125: the phase changes at deassertions alone: an instruction that leaves the code as it is, and any instruction
from code 0 (an assertion among them, R144), leaves the phase as it is. -/
def Obligations.PhaseIsConstantWithinSelection : Prop :=
  ∀ (i : Instr) (s t : State), s.PhaseFollowsEnable → exec i s = .next t → (t.inp.code = s.inp.code ∨ s.inp.code = 0#3) →
    t.rbPhase = s.rbPhase

/-- R126: after every clock edge, level change and change of code of LATER, the phase is A while the enable bit is clear. -/
def Obligations.PhaseRestsWhileDisabled : Prop :=
  ∀ (i : Instr) (s t : State), s.PhaseFollowsEnable → exec i s = .next t → t.PhaseFollowsEnable

/-- R134: in phase B the SR is not selected, and no instruction writes the configuration, the SR or its serial-out
register. -/
def Obligations.PhaseBLeavesTheSr : Prop :=
  ∀ (i : Instr) (s t : State), s.phaseA = false → exec i s = .next t → s.selCfg = false ∧ s.SameSr t

/-- R7, R23: in BASE the LATER-only state takes no part (log 11): no instruction changes it, and none reads it, nor does an
output: with other values in those fields the outputs are the same, and every instruction answers the same refusal, or the
same next state but for those fields, which it leaves as they were. -/
def Obligations.BaseLeavesReadbackState : Prop :=
  (∀ (i : Instr) (s t : State), s.profile = .base → exec i s = .next t →
    s.SameReadback t ∧ t.cnt = s.cnt ∧ t.draws = s.draws) ∧
  (∀ (n : BitCount) (ph : Phase) (cap : Capture) (siso : SisoWord) (out fresh : Bool) (d : Nat),
    let other : State → State := fun s =>
      { s with cnt := n, rbPhase := ph, rbCap := cap, siso := siso, sisoOut := out, sisoFresh := fresh, draws := d }
    ∀ s : State, s.profile = .base →
      (other s).outputs = s.outputs ∧
      (∀ (i : Instr) (t : State), exec i s = .next t → exec i (other s) = .next (other t)) ∧
      (∀ (i : Instr) (r : Refusal), exec i s = .refused r → exec i (other s) = .refused r))

/-! ### Transactions -/

/-- R85: what a BASE transaction to code 1 of any length `N` latches: the last bits sent below the low bits of the STATUS
word of its start; no edge, no latch. It ends quiescent and armed. -/
def Obligations.BaseTransactionLatch : Prop :=
  ∀ (s : State) (bits : List Bool), s.profile = .base → s.Quiescent → s.fresh = true →
    ∃ t, runEvents (xferEvents 1#3 bits) s = .next t ∧ t.Quiescent ∧ t.fresh = true ∧
      (bits = [] → t.pdi = s.pdi) ∧
      (bits ≠ [] → ∀ k, k < 24 →
        t.pdi.getLsbD k = if k < bits.length then bits.reverse.getD k false else s.status.getLsbD (k - bits.length))

/-- R84 for BASE: the read word of a transaction to code 1: the left-over serial-out bit, then the STATUS word of its start
from bit 22 down, then the master's own bits. -/
def Obligations.BaseReadWord : Prop :=
  ∀ (s : State) (bits : List Bool), s.profile = .base → s.Quiescent → s.fresh = true →
    readWord (xferEvents 1#3 bits) s =
      (List.range bits.length).map fun k =>
        .known (if k = 0 then s.sdo else if k < 24 then s.status.getLsbD (23 - k) else bits.getD (k - 24) false)

/-- R86: what a LATER transaction to code 1 of `N` sample edges latches: its last complete frame, and nothing when there is
none. -/
def Obligations.LaterTransactionLatch : Prop :=
  ∀ (s : State) (bits : List Bool), s.profile = .later → s.rbPhase = .a → s.Quiescent → s.fresh = true → s.cnt = 23#5 →
    ∃ t, runEvents (xferEvents 1#3 bits) s = .next t ∧ t.Quiescent ∧ t.fresh = true ∧ t.cnt = 23#5 ∧
      (bits.length < 24 → t.pdi = s.pdi) ∧
      (24 ≤ bits.length → ∀ k, k < 24 → t.pdi.getLsbD k = bits.getD (24 * (bits.length / 24) - 1 - k) false)

/-- R84 for the first frame in LATER, of a transaction of any length: the left-over serial-out bit, then the STATUS word of
its start from bit 22 down. -/
def Obligations.LaterFirstFrameReadWord : Prop :=
  ∀ (s : State) (bits : List Bool), s.profile = .later → s.rbPhase = .a → s.Quiescent → s.fresh = true → s.cnt = 23#5 →
    (readWord (xferEvents 1#3 bits) s).take 24 =
      (List.range (min bits.length 24)).map fun k => .known (if k = 0 then s.sdo else s.status.getLsbD (23 - k))

/-- R84, R39 for the later frames in LATER (frame `f` here numbered from 0): all 24 bits of the STATUS word at the last edge
of the frame before, bit 23 first. That edge reads the configuration as it is before its own latch (R78, R121): the one of
the start for frame 1, and the word of frame `f - 2` after it. -/
def Obligations.LaterFramesReadWord : Prop :=
  ∀ (s : State) (bits : List Bool) (f k : Nat),
    s.profile = .later → s.rbPhase = .a → s.Quiescent → s.fresh = true → s.cnt = 23#5 →
    1 ≤ f → k < 24 → 24 * f + k < bits.length →
    (readWord (xferEvents 1#3 bits) s)[24 * f + k]? =
      some (.known
        (({ s with pdi := if f = 1 then s.pdi else frameWord bits (f - 2) } : State).status.getLsbD (23 - k)))

/-- R135 with R134: the first 24 bits of the read-back word of a phase-B transaction of any length: the left-over bit, then
the source, zero-extended to 23 bits, most significant first; the SR and the capture are untouched, and the phase is A after
it. -/
def Obligations.ReadbackTransaction : Prop :=
  ∀ (s : State) (c : Code) (bits : List Bool),
    s.profile = .later → s.rbPhase = .b → s.cfg.rbEn = true → s.Quiescent → s.sisoFresh = true → c ≠ 0#3 →
    (readbackWord (xferEvents c bits) s).take 24 =
        (List.range (min bits.length 24)).map (fun k =>
          some (if k = 0 then s.sisoOut
            else (if c = 1#3 then s.protoRev.setWidth 23
                  else if c = 3#3 then s.inp.pllLock.setWidth 23
                  else (s.rbCap.setWidth 23 : SisoWord)).getLsbD (23 - k))) ∧
      ∃ t, runEvents (xferEvents c bits) s = .next t ∧ t.Quiescent ∧ s.SameSr t ∧ t.rbCap = s.rbCap ∧
        t.rbPhase = .a ∧ t.sisoFresh = true

/-- R162: a selection of any code with no sample edge leaves everything as it was, but for the LATER phase flip. -/
def Obligations.ZeroEdgeTransaction : Prop :=
  ∀ (s : State) (c : Code), s.Inv → s.inp.code = 0#3 → c ≠ 0#3 →
    ∃ t, runEvents [.sel c, .sel 0#3] s = .next t ∧
      (s.profile = .base → t = s) ∧
      (s.profile = .later → t = { s with rbPhase := if s.cfg.rbEn then s.rbPhase.flip else s.rbPhase })

/-- R101, Scenario B: any number of clock pairs with nothing selected leaves every piece of state as it was. -/
def Obligations.IdleClocksChangeNothing : Prop :=
  ∀ (s : State) (n : Nat), s.PhaseFollowsEnable → s.Quiescent → runEvents (idleClkEvents n) s = .next s

/-- R196: a LATER master that has lost count of the phase recovers by writing a configuration with the enable bit clear
twice in a row. -/
def Obligations.TwoDisablingWritesRecover : Prop :=
  ∀ (s : State) (v : Word), s.profile = .later → s.Inv → s.Quiescent → v.getLsbD 23 = false →
    ∃ t, runEvents (wcfgEvents v ++ wcfgEvents v) s = .next t ∧ t.pdi = v ∧ t.rbPhase = .a ∧ t.cfg.rbEn = false ∧
      t.Quiescent

/-- R195: the LATER write that sets the enable bit is followed by phase B. -/
def Obligations.EnablingWriteLeadsToPhaseB : Prop :=
  ∀ (s : State) (v : Word), s.profile = .later → s.rbPhase = .a → s.Quiescent → s.fresh = true → s.cnt = 23#5 →
    v.getLsbD 23 = true →
    ∃ t, runEvents (wcfgEvents v) s = .next t ∧ t.pdi = v ∧ t.rbPhase = .b ∧ t.Quiescent
end

