-- ==== Sys2Proof/Laws/Bits.lean ====
section
/-! SUPPORT. The bit patterns of the operands: shifts (R157), placed fields, the strap echo and the STATUS word (R38). -/

namespace Sys2Proof.Machine

open Sys2Proof

/-- A shift in the notation of the rules: `{v[n-1:0], b}` for an `n + 1`-bit `v`. -/
theorem shiftIn_succ {n : Nat} (v : BitVec (n + 1)) (b : Bool) : shiftIn v b = v.extractLsb' 0 n ++ BitVec.ofBool b := by
  ext i hi
  cases i with
  | zero => simp [shiftIn, BitVec.getElem_shiftConcat, BitVec.getElem_append]
  | succ k =>
    have hk : k < n + 1 := by omega
    simp [shiftIn, BitVec.getElem_append, BitVec.getLsbD_eq_getElem hk]

/-- A 24-bit shift, `{v[22:0], b}`. -/
theorem shiftIn_word (v : Word) (b : Bool) : shiftIn v b = v.extractLsb' 0 23 ++ BitVec.ofBool b := shiftIn_succ v b

/-- An 8-bit shift, `{v[6:0], b}`. -/
theorem shiftIn_capture (v : Capture) (b : Bool) : shiftIn v b = v.extractLsb' 0 7 ++ BitVec.ofBool b := shiftIn_succ v b

/-- A 23-bit shift, `{v[21:0], b}`. -/
theorem shiftIn_siso (v : SisoWord) (b : Bool) : shiftIn v b = v.extractLsb' 0 22 ++ BitVec.ofBool b := shiftIn_succ v b

/-- Bit `k` of a placed field. -/
theorem placed_getLsbD {n : Nat} (m : Nat) (v : BitVec n) (lo k : Nat) :
    (placed m v lo).getLsbD k = (decide (k < m) && decide (lo ≤ k) && v.getLsbD (k - lo)) := by
  by_cases h : k < m
  · by_cases h2 : k < lo
    · simp [placed, h2]
    · have h4 : lo ≤ k := by omega
      simp [placed, h, h2, h4]
  · simp [placed, h]

/-- Bit `k` of the strap echo: bit 0 is `en_9910`, then `en_nu`, `en_eem1`, `strap_rsv` (R38). -/
theorem ifcMode_getLsbD (x : Inputs) (k : Nat) :
    x.ifcMode.getLsbD k =
      match k with
      | 0 => x.en9910
      | 1 => x.enNu
      | 2 => x.enEem1
      | 3 => x.strapRsv
      | _ => false := by
  rcases k with _ | _ | _ | _ | k <;> simp [Inputs.ifcMode, placed]

/-- Bit `k` of the STATUS word, as the OR of its placed fields (R38). -/
theorem status_getLsbD (s : State) (k : Nat) :
    s.status.getLsbD k =
      (decide (k < 24) &&
        (s.rfSw.getLsbD k || (decide (4 ≤ k) && s.inp.smpErr.getLsbD (k - 4)) ||
          (decide (8 ≤ k) && s.inp.pllLock.getLsbD (k - 8)) || (decide (12 ≤ k) && s.inp.ifcMode.getLsbD (k - 12)) ||
          (decide (16 ≤ k) && s.protoRev.getLsbD (k - 16)))) := by
  simp only [State.status, BitVec.getLsbD_or, placed_getLsbD]
  by_cases h : k < 24 <;> simp [h]

end Sys2Proof.Machine
end

