-- ==== Sys2Proof/Laws/State.lean ====
section
/-! SUPPORT. One lemma a field for each setter of Machine/Ops.lean, each true by unfolding, so that no later proof unfolds a
record update. -/

namespace Sys2Proof.Machine

open Sys2Proof

@[simp] theorem State.setSr_profile (s : State) (v : Word) : (s.setSr v).profile = s.profile := rfl
@[simp] theorem State.setSr_protoRev (s : State) (v : Word) : (s.setSr v).protoRev = s.protoRev := rfl
@[simp] theorem State.setSr_sr (s : State) (v : Word) : (s.setSr v).sr = v := rfl
@[simp] theorem State.setSr_sdo (s : State) (v : Word) : (s.setSr v).sdo = s.sdo := rfl
@[simp] theorem State.setSr_fresh (s : State) (v : Word) : (s.setSr v).fresh = s.fresh := rfl
@[simp] theorem State.setSr_cnt (s : State) (v : Word) : (s.setSr v).cnt = s.cnt := rfl
@[simp] theorem State.setSr_pdi (s : State) (v : Word) : (s.setSr v).pdi = s.pdi := rfl
@[simp] theorem State.setSr_rbPhase (s : State) (v : Word) : (s.setSr v).rbPhase = s.rbPhase := rfl
@[simp] theorem State.setSr_rbCap (s : State) (v : Word) : (s.setSr v).rbCap = s.rbCap := rfl
@[simp] theorem State.setSr_siso (s : State) (v : Word) : (s.setSr v).siso = s.siso := rfl
@[simp] theorem State.setSr_sisoOut (s : State) (v : Word) : (s.setSr v).sisoOut = s.sisoOut := rfl
@[simp] theorem State.setSr_sisoFresh (s : State) (v : Word) : (s.setSr v).sisoFresh = s.sisoFresh := rfl
@[simp] theorem State.setSr_inp (s : State) (v : Word) : (s.setSr v).inp = s.inp := rfl
@[simp] theorem State.setSr_pending (s : State) (v : Word) : (s.setSr v).pending = s.pending := rfl
@[simp] theorem State.setSr_draws (s : State) (v : Word) : (s.setSr v).draws = s.draws := rfl

@[simp] theorem State.setSdo_profile (s : State) (v : Bool) : (s.setSdo v).profile = s.profile := rfl
@[simp] theorem State.setSdo_protoRev (s : State) (v : Bool) : (s.setSdo v).protoRev = s.protoRev := rfl
@[simp] theorem State.setSdo_sr (s : State) (v : Bool) : (s.setSdo v).sr = s.sr := rfl
@[simp] theorem State.setSdo_sdo (s : State) (v : Bool) : (s.setSdo v).sdo = v := rfl
@[simp] theorem State.setSdo_fresh (s : State) (v : Bool) : (s.setSdo v).fresh = s.fresh := rfl
@[simp] theorem State.setSdo_cnt (s : State) (v : Bool) : (s.setSdo v).cnt = s.cnt := rfl
@[simp] theorem State.setSdo_pdi (s : State) (v : Bool) : (s.setSdo v).pdi = s.pdi := rfl
@[simp] theorem State.setSdo_rbPhase (s : State) (v : Bool) : (s.setSdo v).rbPhase = s.rbPhase := rfl
@[simp] theorem State.setSdo_rbCap (s : State) (v : Bool) : (s.setSdo v).rbCap = s.rbCap := rfl
@[simp] theorem State.setSdo_siso (s : State) (v : Bool) : (s.setSdo v).siso = s.siso := rfl
@[simp] theorem State.setSdo_sisoOut (s : State) (v : Bool) : (s.setSdo v).sisoOut = s.sisoOut := rfl
@[simp] theorem State.setSdo_sisoFresh (s : State) (v : Bool) : (s.setSdo v).sisoFresh = s.sisoFresh := rfl
@[simp] theorem State.setSdo_inp (s : State) (v : Bool) : (s.setSdo v).inp = s.inp := rfl
@[simp] theorem State.setSdo_pending (s : State) (v : Bool) : (s.setSdo v).pending = s.pending := rfl
@[simp] theorem State.setSdo_draws (s : State) (v : Bool) : (s.setSdo v).draws = s.draws := rfl

@[simp] theorem State.setFresh_profile (s : State) (v : Bool) : (s.setFresh v).profile = s.profile := rfl
@[simp] theorem State.setFresh_protoRev (s : State) (v : Bool) : (s.setFresh v).protoRev = s.protoRev := rfl
@[simp] theorem State.setFresh_sr (s : State) (v : Bool) : (s.setFresh v).sr = s.sr := rfl
@[simp] theorem State.setFresh_sdo (s : State) (v : Bool) : (s.setFresh v).sdo = s.sdo := rfl
@[simp] theorem State.setFresh_fresh (s : State) (v : Bool) : (s.setFresh v).fresh = v := rfl
@[simp] theorem State.setFresh_cnt (s : State) (v : Bool) : (s.setFresh v).cnt = s.cnt := rfl
@[simp] theorem State.setFresh_pdi (s : State) (v : Bool) : (s.setFresh v).pdi = s.pdi := rfl
@[simp] theorem State.setFresh_rbPhase (s : State) (v : Bool) : (s.setFresh v).rbPhase = s.rbPhase := rfl
@[simp] theorem State.setFresh_rbCap (s : State) (v : Bool) : (s.setFresh v).rbCap = s.rbCap := rfl
@[simp] theorem State.setFresh_siso (s : State) (v : Bool) : (s.setFresh v).siso = s.siso := rfl
@[simp] theorem State.setFresh_sisoOut (s : State) (v : Bool) : (s.setFresh v).sisoOut = s.sisoOut := rfl
@[simp] theorem State.setFresh_sisoFresh (s : State) (v : Bool) : (s.setFresh v).sisoFresh = s.sisoFresh := rfl
@[simp] theorem State.setFresh_inp (s : State) (v : Bool) : (s.setFresh v).inp = s.inp := rfl
@[simp] theorem State.setFresh_pending (s : State) (v : Bool) : (s.setFresh v).pending = s.pending := rfl
@[simp] theorem State.setFresh_draws (s : State) (v : Bool) : (s.setFresh v).draws = s.draws := rfl

@[simp] theorem State.setCnt_profile (s : State) (v : BitCount) : (s.setCnt v).profile = s.profile := rfl
@[simp] theorem State.setCnt_protoRev (s : State) (v : BitCount) : (s.setCnt v).protoRev = s.protoRev := rfl
@[simp] theorem State.setCnt_sr (s : State) (v : BitCount) : (s.setCnt v).sr = s.sr := rfl
@[simp] theorem State.setCnt_sdo (s : State) (v : BitCount) : (s.setCnt v).sdo = s.sdo := rfl
@[simp] theorem State.setCnt_fresh (s : State) (v : BitCount) : (s.setCnt v).fresh = s.fresh := rfl
@[simp] theorem State.setCnt_cnt (s : State) (v : BitCount) : (s.setCnt v).cnt = v := rfl
@[simp] theorem State.setCnt_pdi (s : State) (v : BitCount) : (s.setCnt v).pdi = s.pdi := rfl
@[simp] theorem State.setCnt_rbPhase (s : State) (v : BitCount) : (s.setCnt v).rbPhase = s.rbPhase := rfl
@[simp] theorem State.setCnt_rbCap (s : State) (v : BitCount) : (s.setCnt v).rbCap = s.rbCap := rfl
@[simp] theorem State.setCnt_siso (s : State) (v : BitCount) : (s.setCnt v).siso = s.siso := rfl
@[simp] theorem State.setCnt_sisoOut (s : State) (v : BitCount) : (s.setCnt v).sisoOut = s.sisoOut := rfl
@[simp] theorem State.setCnt_sisoFresh (s : State) (v : BitCount) : (s.setCnt v).sisoFresh = s.sisoFresh := rfl
@[simp] theorem State.setCnt_inp (s : State) (v : BitCount) : (s.setCnt v).inp = s.inp := rfl
@[simp] theorem State.setCnt_pending (s : State) (v : BitCount) : (s.setCnt v).pending = s.pending := rfl
@[simp] theorem State.setCnt_draws (s : State) (v : BitCount) : (s.setCnt v).draws = s.draws := rfl

@[simp] theorem State.setPdi_profile (s : State) (v : Word) : (s.setPdi v).profile = s.profile := rfl
@[simp] theorem State.setPdi_protoRev (s : State) (v : Word) : (s.setPdi v).protoRev = s.protoRev := rfl
@[simp] theorem State.setPdi_sr (s : State) (v : Word) : (s.setPdi v).sr = s.sr := rfl
@[simp] theorem State.setPdi_sdo (s : State) (v : Word) : (s.setPdi v).sdo = s.sdo := rfl
@[simp] theorem State.setPdi_fresh (s : State) (v : Word) : (s.setPdi v).fresh = s.fresh := rfl
@[simp] theorem State.setPdi_cnt (s : State) (v : Word) : (s.setPdi v).cnt = s.cnt := rfl
@[simp] theorem State.setPdi_pdi (s : State) (v : Word) : (s.setPdi v).pdi = v := rfl
@[simp] theorem State.setPdi_rbPhase (s : State) (v : Word) : (s.setPdi v).rbPhase = s.rbPhase := rfl
@[simp] theorem State.setPdi_rbCap (s : State) (v : Word) : (s.setPdi v).rbCap = s.rbCap := rfl
@[simp] theorem State.setPdi_siso (s : State) (v : Word) : (s.setPdi v).siso = s.siso := rfl
@[simp] theorem State.setPdi_sisoOut (s : State) (v : Word) : (s.setPdi v).sisoOut = s.sisoOut := rfl
@[simp] theorem State.setPdi_sisoFresh (s : State) (v : Word) : (s.setPdi v).sisoFresh = s.sisoFresh := rfl
@[simp] theorem State.setPdi_inp (s : State) (v : Word) : (s.setPdi v).inp = s.inp := rfl
@[simp] theorem State.setPdi_pending (s : State) (v : Word) : (s.setPdi v).pending = s.pending := rfl
@[simp] theorem State.setPdi_draws (s : State) (v : Word) : (s.setPdi v).draws = s.draws := rfl

@[simp] theorem State.setRbPhase_profile (s : State) (v : Phase) : (s.setRbPhase v).profile = s.profile := rfl
@[simp] theorem State.setRbPhase_protoRev (s : State) (v : Phase) : (s.setRbPhase v).protoRev = s.protoRev := rfl
@[simp] theorem State.setRbPhase_sr (s : State) (v : Phase) : (s.setRbPhase v).sr = s.sr := rfl
@[simp] theorem State.setRbPhase_sdo (s : State) (v : Phase) : (s.setRbPhase v).sdo = s.sdo := rfl
@[simp] theorem State.setRbPhase_fresh (s : State) (v : Phase) : (s.setRbPhase v).fresh = s.fresh := rfl
@[simp] theorem State.setRbPhase_cnt (s : State) (v : Phase) : (s.setRbPhase v).cnt = s.cnt := rfl
@[simp] theorem State.setRbPhase_pdi (s : State) (v : Phase) : (s.setRbPhase v).pdi = s.pdi := rfl
@[simp] theorem State.setRbPhase_rbPhase (s : State) (v : Phase) : (s.setRbPhase v).rbPhase = v := rfl
@[simp] theorem State.setRbPhase_rbCap (s : State) (v : Phase) : (s.setRbPhase v).rbCap = s.rbCap := rfl
@[simp] theorem State.setRbPhase_siso (s : State) (v : Phase) : (s.setRbPhase v).siso = s.siso := rfl
@[simp] theorem State.setRbPhase_sisoOut (s : State) (v : Phase) : (s.setRbPhase v).sisoOut = s.sisoOut := rfl
@[simp] theorem State.setRbPhase_sisoFresh (s : State) (v : Phase) : (s.setRbPhase v).sisoFresh = s.sisoFresh := rfl
@[simp] theorem State.setRbPhase_inp (s : State) (v : Phase) : (s.setRbPhase v).inp = s.inp := rfl
@[simp] theorem State.setRbPhase_pending (s : State) (v : Phase) : (s.setRbPhase v).pending = s.pending := rfl
@[simp] theorem State.setRbPhase_draws (s : State) (v : Phase) : (s.setRbPhase v).draws = s.draws := rfl

@[simp] theorem State.setRbCap_profile (s : State) (v : Capture) : (s.setRbCap v).profile = s.profile := rfl
@[simp] theorem State.setRbCap_protoRev (s : State) (v : Capture) : (s.setRbCap v).protoRev = s.protoRev := rfl
@[simp] theorem State.setRbCap_sr (s : State) (v : Capture) : (s.setRbCap v).sr = s.sr := rfl
@[simp] theorem State.setRbCap_sdo (s : State) (v : Capture) : (s.setRbCap v).sdo = s.sdo := rfl
@[simp] theorem State.setRbCap_fresh (s : State) (v : Capture) : (s.setRbCap v).fresh = s.fresh := rfl
@[simp] theorem State.setRbCap_cnt (s : State) (v : Capture) : (s.setRbCap v).cnt = s.cnt := rfl
@[simp] theorem State.setRbCap_pdi (s : State) (v : Capture) : (s.setRbCap v).pdi = s.pdi := rfl
@[simp] theorem State.setRbCap_rbPhase (s : State) (v : Capture) : (s.setRbCap v).rbPhase = s.rbPhase := rfl
@[simp] theorem State.setRbCap_rbCap (s : State) (v : Capture) : (s.setRbCap v).rbCap = v := rfl
@[simp] theorem State.setRbCap_siso (s : State) (v : Capture) : (s.setRbCap v).siso = s.siso := rfl
@[simp] theorem State.setRbCap_sisoOut (s : State) (v : Capture) : (s.setRbCap v).sisoOut = s.sisoOut := rfl
@[simp] theorem State.setRbCap_sisoFresh (s : State) (v : Capture) : (s.setRbCap v).sisoFresh = s.sisoFresh := rfl
@[simp] theorem State.setRbCap_inp (s : State) (v : Capture) : (s.setRbCap v).inp = s.inp := rfl
@[simp] theorem State.setRbCap_pending (s : State) (v : Capture) : (s.setRbCap v).pending = s.pending := rfl
@[simp] theorem State.setRbCap_draws (s : State) (v : Capture) : (s.setRbCap v).draws = s.draws := rfl

@[simp] theorem State.setSiso_profile (s : State) (v : SisoWord) : (s.setSiso v).profile = s.profile := rfl
@[simp] theorem State.setSiso_protoRev (s : State) (v : SisoWord) : (s.setSiso v).protoRev = s.protoRev := rfl
@[simp] theorem State.setSiso_sr (s : State) (v : SisoWord) : (s.setSiso v).sr = s.sr := rfl
@[simp] theorem State.setSiso_sdo (s : State) (v : SisoWord) : (s.setSiso v).sdo = s.sdo := rfl
@[simp] theorem State.setSiso_fresh (s : State) (v : SisoWord) : (s.setSiso v).fresh = s.fresh := rfl
@[simp] theorem State.setSiso_cnt (s : State) (v : SisoWord) : (s.setSiso v).cnt = s.cnt := rfl
@[simp] theorem State.setSiso_pdi (s : State) (v : SisoWord) : (s.setSiso v).pdi = s.pdi := rfl
@[simp] theorem State.setSiso_rbPhase (s : State) (v : SisoWord) : (s.setSiso v).rbPhase = s.rbPhase := rfl
@[simp] theorem State.setSiso_rbCap (s : State) (v : SisoWord) : (s.setSiso v).rbCap = s.rbCap := rfl
@[simp] theorem State.setSiso_siso (s : State) (v : SisoWord) : (s.setSiso v).siso = v := rfl
@[simp] theorem State.setSiso_sisoOut (s : State) (v : SisoWord) : (s.setSiso v).sisoOut = s.sisoOut := rfl
@[simp] theorem State.setSiso_sisoFresh (s : State) (v : SisoWord) : (s.setSiso v).sisoFresh = s.sisoFresh := rfl
@[simp] theorem State.setSiso_inp (s : State) (v : SisoWord) : (s.setSiso v).inp = s.inp := rfl
@[simp] theorem State.setSiso_pending (s : State) (v : SisoWord) : (s.setSiso v).pending = s.pending := rfl
@[simp] theorem State.setSiso_draws (s : State) (v : SisoWord) : (s.setSiso v).draws = s.draws := rfl

@[simp] theorem State.setSisoOut_profile (s : State) (v : Bool) : (s.setSisoOut v).profile = s.profile := rfl
@[simp] theorem State.setSisoOut_protoRev (s : State) (v : Bool) : (s.setSisoOut v).protoRev = s.protoRev := rfl
@[simp] theorem State.setSisoOut_sr (s : State) (v : Bool) : (s.setSisoOut v).sr = s.sr := rfl
@[simp] theorem State.setSisoOut_sdo (s : State) (v : Bool) : (s.setSisoOut v).sdo = s.sdo := rfl
@[simp] theorem State.setSisoOut_fresh (s : State) (v : Bool) : (s.setSisoOut v).fresh = s.fresh := rfl
@[simp] theorem State.setSisoOut_cnt (s : State) (v : Bool) : (s.setSisoOut v).cnt = s.cnt := rfl
@[simp] theorem State.setSisoOut_pdi (s : State) (v : Bool) : (s.setSisoOut v).pdi = s.pdi := rfl
@[simp] theorem State.setSisoOut_rbPhase (s : State) (v : Bool) : (s.setSisoOut v).rbPhase = s.rbPhase := rfl
@[simp] theorem State.setSisoOut_rbCap (s : State) (v : Bool) : (s.setSisoOut v).rbCap = s.rbCap := rfl
@[simp] theorem State.setSisoOut_siso (s : State) (v : Bool) : (s.setSisoOut v).siso = s.siso := rfl
@[simp] theorem State.setSisoOut_sisoOut (s : State) (v : Bool) : (s.setSisoOut v).sisoOut = v := rfl
@[simp] theorem State.setSisoOut_sisoFresh (s : State) (v : Bool) : (s.setSisoOut v).sisoFresh = s.sisoFresh := rfl
@[simp] theorem State.setSisoOut_inp (s : State) (v : Bool) : (s.setSisoOut v).inp = s.inp := rfl
@[simp] theorem State.setSisoOut_pending (s : State) (v : Bool) : (s.setSisoOut v).pending = s.pending := rfl
@[simp] theorem State.setSisoOut_draws (s : State) (v : Bool) : (s.setSisoOut v).draws = s.draws := rfl

@[simp] theorem State.setSisoFresh_profile (s : State) (v : Bool) : (s.setSisoFresh v).profile = s.profile := rfl
@[simp] theorem State.setSisoFresh_protoRev (s : State) (v : Bool) : (s.setSisoFresh v).protoRev = s.protoRev := rfl
@[simp] theorem State.setSisoFresh_sr (s : State) (v : Bool) : (s.setSisoFresh v).sr = s.sr := rfl
@[simp] theorem State.setSisoFresh_sdo (s : State) (v : Bool) : (s.setSisoFresh v).sdo = s.sdo := rfl
@[simp] theorem State.setSisoFresh_fresh (s : State) (v : Bool) : (s.setSisoFresh v).fresh = s.fresh := rfl
@[simp] theorem State.setSisoFresh_cnt (s : State) (v : Bool) : (s.setSisoFresh v).cnt = s.cnt := rfl
@[simp] theorem State.setSisoFresh_pdi (s : State) (v : Bool) : (s.setSisoFresh v).pdi = s.pdi := rfl
@[simp] theorem State.setSisoFresh_rbPhase (s : State) (v : Bool) : (s.setSisoFresh v).rbPhase = s.rbPhase := rfl
@[simp] theorem State.setSisoFresh_rbCap (s : State) (v : Bool) : (s.setSisoFresh v).rbCap = s.rbCap := rfl
@[simp] theorem State.setSisoFresh_siso (s : State) (v : Bool) : (s.setSisoFresh v).siso = s.siso := rfl
@[simp] theorem State.setSisoFresh_sisoOut (s : State) (v : Bool) : (s.setSisoFresh v).sisoOut = s.sisoOut := rfl
@[simp] theorem State.setSisoFresh_sisoFresh (s : State) (v : Bool) : (s.setSisoFresh v).sisoFresh = v := rfl
@[simp] theorem State.setSisoFresh_inp (s : State) (v : Bool) : (s.setSisoFresh v).inp = s.inp := rfl
@[simp] theorem State.setSisoFresh_pending (s : State) (v : Bool) : (s.setSisoFresh v).pending = s.pending := rfl
@[simp] theorem State.setSisoFresh_draws (s : State) (v : Bool) : (s.setSisoFresh v).draws = s.draws := rfl

@[simp] theorem State.setInp_profile (s : State) (v : Inputs) : (s.setInp v).profile = s.profile := rfl
@[simp] theorem State.setInp_protoRev (s : State) (v : Inputs) : (s.setInp v).protoRev = s.protoRev := rfl
@[simp] theorem State.setInp_sr (s : State) (v : Inputs) : (s.setInp v).sr = s.sr := rfl
@[simp] theorem State.setInp_sdo (s : State) (v : Inputs) : (s.setInp v).sdo = s.sdo := rfl
@[simp] theorem State.setInp_fresh (s : State) (v : Inputs) : (s.setInp v).fresh = s.fresh := rfl
@[simp] theorem State.setInp_cnt (s : State) (v : Inputs) : (s.setInp v).cnt = s.cnt := rfl
@[simp] theorem State.setInp_pdi (s : State) (v : Inputs) : (s.setInp v).pdi = s.pdi := rfl
@[simp] theorem State.setInp_rbPhase (s : State) (v : Inputs) : (s.setInp v).rbPhase = s.rbPhase := rfl
@[simp] theorem State.setInp_rbCap (s : State) (v : Inputs) : (s.setInp v).rbCap = s.rbCap := rfl
@[simp] theorem State.setInp_siso (s : State) (v : Inputs) : (s.setInp v).siso = s.siso := rfl
@[simp] theorem State.setInp_sisoOut (s : State) (v : Inputs) : (s.setInp v).sisoOut = s.sisoOut := rfl
@[simp] theorem State.setInp_sisoFresh (s : State) (v : Inputs) : (s.setInp v).sisoFresh = s.sisoFresh := rfl
@[simp] theorem State.setInp_inp (s : State) (v : Inputs) : (s.setInp v).inp = v := rfl
@[simp] theorem State.setInp_pending (s : State) (v : Inputs) : (s.setInp v).pending = s.pending := rfl
@[simp] theorem State.setInp_draws (s : State) (v : Inputs) : (s.setInp v).draws = s.draws := rfl

@[simp] theorem State.setPending_profile (s : State) (v : List Item) : (s.setPending v).profile = s.profile := rfl
@[simp] theorem State.setPending_protoRev (s : State) (v : List Item) : (s.setPending v).protoRev = s.protoRev := rfl
@[simp] theorem State.setPending_sr (s : State) (v : List Item) : (s.setPending v).sr = s.sr := rfl
@[simp] theorem State.setPending_sdo (s : State) (v : List Item) : (s.setPending v).sdo = s.sdo := rfl
@[simp] theorem State.setPending_fresh (s : State) (v : List Item) : (s.setPending v).fresh = s.fresh := rfl
@[simp] theorem State.setPending_cnt (s : State) (v : List Item) : (s.setPending v).cnt = s.cnt := rfl
@[simp] theorem State.setPending_pdi (s : State) (v : List Item) : (s.setPending v).pdi = s.pdi := rfl
@[simp] theorem State.setPending_rbPhase (s : State) (v : List Item) : (s.setPending v).rbPhase = s.rbPhase := rfl
@[simp] theorem State.setPending_rbCap (s : State) (v : List Item) : (s.setPending v).rbCap = s.rbCap := rfl
@[simp] theorem State.setPending_siso (s : State) (v : List Item) : (s.setPending v).siso = s.siso := rfl
@[simp] theorem State.setPending_sisoOut (s : State) (v : List Item) : (s.setPending v).sisoOut = s.sisoOut := rfl
@[simp] theorem State.setPending_sisoFresh (s : State) (v : List Item) : (s.setPending v).sisoFresh = s.sisoFresh := rfl
@[simp] theorem State.setPending_inp (s : State) (v : List Item) : (s.setPending v).inp = s.inp := rfl
@[simp] theorem State.setPending_pending (s : State) (v : List Item) : (s.setPending v).pending = v := rfl
@[simp] theorem State.setPending_draws (s : State) (v : List Item) : (s.setPending v).draws = s.draws := rfl

@[simp] theorem State.setDraws_profile (s : State) (v : Nat) : (s.setDraws v).profile = s.profile := rfl
@[simp] theorem State.setDraws_protoRev (s : State) (v : Nat) : (s.setDraws v).protoRev = s.protoRev := rfl
@[simp] theorem State.setDraws_sr (s : State) (v : Nat) : (s.setDraws v).sr = s.sr := rfl
@[simp] theorem State.setDraws_sdo (s : State) (v : Nat) : (s.setDraws v).sdo = s.sdo := rfl
@[simp] theorem State.setDraws_fresh (s : State) (v : Nat) : (s.setDraws v).fresh = s.fresh := rfl
@[simp] theorem State.setDraws_cnt (s : State) (v : Nat) : (s.setDraws v).cnt = s.cnt := rfl
@[simp] theorem State.setDraws_pdi (s : State) (v : Nat) : (s.setDraws v).pdi = s.pdi := rfl
@[simp] theorem State.setDraws_rbPhase (s : State) (v : Nat) : (s.setDraws v).rbPhase = s.rbPhase := rfl
@[simp] theorem State.setDraws_rbCap (s : State) (v : Nat) : (s.setDraws v).rbCap = s.rbCap := rfl
@[simp] theorem State.setDraws_siso (s : State) (v : Nat) : (s.setDraws v).siso = s.siso := rfl
@[simp] theorem State.setDraws_sisoOut (s : State) (v : Nat) : (s.setDraws v).sisoOut = s.sisoOut := rfl
@[simp] theorem State.setDraws_sisoFresh (s : State) (v : Nat) : (s.setDraws v).sisoFresh = s.sisoFresh := rfl
@[simp] theorem State.setDraws_inp (s : State) (v : Nat) : (s.setDraws v).inp = s.inp := rfl
@[simp] theorem State.setDraws_pending (s : State) (v : Nat) : (s.setDraws v).pending = s.pending := rfl
@[simp] theorem State.setDraws_draws (s : State) (v : Nat) : (s.setDraws v).draws = v := rfl

@[simp] theorem State.setSck_profile (s : State) (v : Bool) : (s.setSck v).profile = s.profile := rfl
@[simp] theorem State.setSck_protoRev (s : State) (v : Bool) : (s.setSck v).protoRev = s.protoRev := rfl
@[simp] theorem State.setSck_sr (s : State) (v : Bool) : (s.setSck v).sr = s.sr := rfl
@[simp] theorem State.setSck_sdo (s : State) (v : Bool) : (s.setSck v).sdo = s.sdo := rfl
@[simp] theorem State.setSck_fresh (s : State) (v : Bool) : (s.setSck v).fresh = s.fresh := rfl
@[simp] theorem State.setSck_cnt (s : State) (v : Bool) : (s.setSck v).cnt = s.cnt := rfl
@[simp] theorem State.setSck_pdi (s : State) (v : Bool) : (s.setSck v).pdi = s.pdi := rfl
@[simp] theorem State.setSck_rbPhase (s : State) (v : Bool) : (s.setSck v).rbPhase = s.rbPhase := rfl
@[simp] theorem State.setSck_rbCap (s : State) (v : Bool) : (s.setSck v).rbCap = s.rbCap := rfl
@[simp] theorem State.setSck_siso (s : State) (v : Bool) : (s.setSck v).siso = s.siso := rfl
@[simp] theorem State.setSck_sisoOut (s : State) (v : Bool) : (s.setSck v).sisoOut = s.sisoOut := rfl
@[simp] theorem State.setSck_sisoFresh (s : State) (v : Bool) : (s.setSck v).sisoFresh = s.sisoFresh := rfl
@[simp] theorem State.setSck_inp (s : State) (v : Bool) : (s.setSck v).inp = { s.inp with sck := v } := rfl
@[simp] theorem State.setSck_pending (s : State) (v : Bool) : (s.setSck v).pending = s.pending := rfl
@[simp] theorem State.setSck_draws (s : State) (v : Bool) : (s.setSck v).draws = s.draws := rfl

@[simp] theorem State.setSdi_profile (s : State) (v : Bool) : (s.setSdi v).profile = s.profile := rfl
@[simp] theorem State.setSdi_protoRev (s : State) (v : Bool) : (s.setSdi v).protoRev = s.protoRev := rfl
@[simp] theorem State.setSdi_sr (s : State) (v : Bool) : (s.setSdi v).sr = s.sr := rfl
@[simp] theorem State.setSdi_sdo (s : State) (v : Bool) : (s.setSdi v).sdo = s.sdo := rfl
@[simp] theorem State.setSdi_fresh (s : State) (v : Bool) : (s.setSdi v).fresh = s.fresh := rfl
@[simp] theorem State.setSdi_cnt (s : State) (v : Bool) : (s.setSdi v).cnt = s.cnt := rfl
@[simp] theorem State.setSdi_pdi (s : State) (v : Bool) : (s.setSdi v).pdi = s.pdi := rfl
@[simp] theorem State.setSdi_rbPhase (s : State) (v : Bool) : (s.setSdi v).rbPhase = s.rbPhase := rfl
@[simp] theorem State.setSdi_rbCap (s : State) (v : Bool) : (s.setSdi v).rbCap = s.rbCap := rfl
@[simp] theorem State.setSdi_siso (s : State) (v : Bool) : (s.setSdi v).siso = s.siso := rfl
@[simp] theorem State.setSdi_sisoOut (s : State) (v : Bool) : (s.setSdi v).sisoOut = s.sisoOut := rfl
@[simp] theorem State.setSdi_sisoFresh (s : State) (v : Bool) : (s.setSdi v).sisoFresh = s.sisoFresh := rfl
@[simp] theorem State.setSdi_inp (s : State) (v : Bool) : (s.setSdi v).inp = { s.inp with sdi := v } := rfl
@[simp] theorem State.setSdi_pending (s : State) (v : Bool) : (s.setSdi v).pending = s.pending := rfl
@[simp] theorem State.setSdi_draws (s : State) (v : Bool) : (s.setSdi v).draws = s.draws := rfl

@[simp] theorem State.setCode_profile (s : State) (v : Code) : (s.setCode v).profile = s.profile := rfl
@[simp] theorem State.setCode_protoRev (s : State) (v : Code) : (s.setCode v).protoRev = s.protoRev := rfl
@[simp] theorem State.setCode_sr (s : State) (v : Code) : (s.setCode v).sr = s.sr := rfl
@[simp] theorem State.setCode_sdo (s : State) (v : Code) : (s.setCode v).sdo = s.sdo := rfl
@[simp] theorem State.setCode_fresh (s : State) (v : Code) : (s.setCode v).fresh = s.fresh := rfl
@[simp] theorem State.setCode_cnt (s : State) (v : Code) : (s.setCode v).cnt = s.cnt := rfl
@[simp] theorem State.setCode_pdi (s : State) (v : Code) : (s.setCode v).pdi = s.pdi := rfl
@[simp] theorem State.setCode_rbPhase (s : State) (v : Code) : (s.setCode v).rbPhase = s.rbPhase := rfl
@[simp] theorem State.setCode_rbCap (s : State) (v : Code) : (s.setCode v).rbCap = s.rbCap := rfl
@[simp] theorem State.setCode_siso (s : State) (v : Code) : (s.setCode v).siso = s.siso := rfl
@[simp] theorem State.setCode_sisoOut (s : State) (v : Code) : (s.setCode v).sisoOut = s.sisoOut := rfl
@[simp] theorem State.setCode_sisoFresh (s : State) (v : Code) : (s.setCode v).sisoFresh = s.sisoFresh := rfl
@[simp] theorem State.setCode_inp (s : State) (v : Code) : (s.setCode v).inp = { s.inp with code := v } := rfl
@[simp] theorem State.setCode_pending (s : State) (v : Code) : (s.setCode v).pending = s.pending := rfl
@[simp] theorem State.setCode_draws (s : State) (v : Code) : (s.setCode v).draws = s.draws := rfl

end Sys2Proof.Machine
end

