-- ==== Sys2Proof/Laws/Ops.lean ====
section
/-! SUPPORT. For each shared operation, what it can do, said once: the component rules by cases, the fields they leave
alone, when a meaning answers a next state, and the five effects a next state of `exec` can be. -/

namespace Sys2Proof.Machine

open Sys2Proof

/-! ### The SR -/

theorem sampleSr_unselected {s0 : State} (h : s0.selCfg = false) (s : State) : sampleSr s0 s = s := by
  simp [sampleSr, h]

theorem sampleSr_base {s0 : State} (h : s0.selCfg = true) (hp : s0.profile = .base) (s : State) :
    sampleSr s0 s = (s.setSr s0.sampledWord).setFresh false := by
  simp [sampleSr, h, hp, Profile.srVariant, sampleSelectLatched]

theorem sampleSr_later_midFrame {s0 : State} (h : s0.selCfg = true) (hp : s0.profile = .later) (hc : s0.cnt ≠ 0#5)
    (s : State) : sampleSr s0 s = ((s.setSr s0.sampledWord).setCnt (s0.cnt - 1#5)).setFresh false := by
  simp [sampleSr, h, hp, Profile.srVariant, sampleCounted, hc]

theorem sampleSr_later_frameEnd {s0 : State} (h : s0.selCfg = true) (hp : s0.profile = .later) (hc : s0.cnt = 0#5)
    (s : State) :
    sampleSr s0 s = (((s.setPdi s0.sampledWord).setSr s0.status).setCnt 23#5).setFresh false := by
  simp [sampleSr, h, hp, Profile.srVariant, sampleCounted, hc]

theorem presentSr_unselected {s0 : State} (h : s0.selCfg = false) (s : State) : presentSr s0 s = s := by
  simp [presentSr, h]

theorem presentSr_selected {s0 : State} (h : s0.selCfg = true) (s : State) :
    presentSr s0 s = s.setSdo (s0.sr.getLsbD 23) := by
  simp [presentSr, h]

theorem releaseSr_unselected {s0 : State} (h : s0.selCfg = false) (s : State) : releaseSr s0 s = s := by
  simp [releaseSr, h]

theorem releaseSr_base {s0 : State} (h : s0.selCfg = true) (hp : s0.profile = .base) (s : State) :
    releaseSr s0 s = (if s0.fresh then s else s.setPdi s0.sr).setFresh true := by
  simp [releaseSr, h, hp, Profile.srVariant]

theorem releaseSr_later {s0 : State} (h : s0.selCfg = true) (hp : s0.profile = .later) (s : State) :
    releaseSr s0 s = (s.setFresh true).setCnt 23#5 := by
  simp [releaseSr, h, hp, Profile.srVariant]

/-! ### The read-back machine -/

theorem phaseB_base {s : State} (hp : s.profile = .base) : s.phaseB = false := by
  simp [State.phaseB, hp, Profile.readback]

theorem phaseA_base {s : State} (hp : s.profile = .base) : s.phaseA = true := by
  simp [State.phaseA, phaseB_base hp]

theorem phaseB_later {s : State} (hp : s.profile = .later) : s.phaseB = decide (s.rbPhase = .b) := by
  simp [State.phaseB, hp, Profile.readback]

theorem phaseA_later {s : State} (hp : s.profile = .later) : s.phaseA = decide (s.rbPhase = .a) := by
  cases h : s.rbPhase <;> simp [State.phaseA, phaseB_later hp, h]

theorem sampleReadback_base {s0 : State} (hp : s0.profile = .base) (s : State) : sampleReadback s0 s = s := by
  simp [sampleReadback, hp, Profile.readback]

theorem sampleReadback_idle {s0 : State} (hc : s0.inp.code = 0#3) (s : State) : sampleReadback s0 s = s := by
  simp [sampleReadback, hc]

theorem sampleReadback_phaseA {s0 : State} (hp : s0.profile = .later) (hc : s0.inp.code ≠ 0#3)
    (ha : s0.phaseA = true) (s : State) : sampleReadback s0 s = captureSdo s0 s := by
  simp [sampleReadback, hp, hc, ha, Profile.readback]

theorem sampleReadback_phaseB {s0 : State} (hp : s0.profile = .later) (hc : s0.inp.code ≠ 0#3)
    (ha : s0.phaseA = false) (s : State) : sampleReadback s0 s = sampleSiso s0 s := by
  simp [sampleReadback, hp, hc, ha, Profile.readback]

theorem captureSdo_known {s0 : State} {b : Bool} (h : s0.outSdo = .known b) (s : State) :
    captureSdo s0 s = s.setRbCap (shiftIn s0.rbCap b) := by
  simp [captureSdo, h]

theorem captureSdo_x {s0 : State} (h : s0.outSdo = .x) (s : State) :
    captureSdo s0 s =
      (s.setRbCap (shiftIn s0.rbCap (Config.freeBit s0.draws))).setDraws (s0.draws + 1) := by
  simp [captureSdo, h]

theorem presentSiso_phaseA {s0 : State} (h : s0.phaseB = false) (s : State) : presentSiso s0 s = s := by
  simp [presentSiso, h]

theorem releaseReadback_base {s0 : State} (hp : s0.profile = .base) (s : State) : releaseReadback s0 s = s := by
  simp [releaseReadback, hp, Profile.readback]

theorem releaseReadback_idle {s0 : State} (hc : s0.inp.code = 0#3) (s : State) : releaseReadback s0 s = s := by
  simp [releaseReadback, hc]

theorem releaseReadback_later {s0 : State} (hp : s0.profile = .later) (hc : s0.inp.code ≠ 0#3) (s : State) :
    releaseReadback s0 s =
      (if s0.phaseB then s.setSisoFresh true else s).setRbPhase (phaseAfterDeassertion s0 s) := by
  simp [releaseReadback, hp, hc, Profile.readback]

theorem settlePhase_base {s : State} (hp : s.profile = .base) : settlePhase s = s := by
  cases s
  subst hp
  rfl

theorem settlePhase_enabled {s : State} (h : s.cfg.rbEn = true) : settlePhase s = s := by
  simp [settlePhase, State.phaseAtRest, h, State.setRbPhase]

theorem settlePhase_phaseA {s : State} (h : s.rbPhase = .a) : settlePhase s = s := by
  simp [settlePhase, State.phaseAtRest, ← h, State.setRbPhase]

theorem settlePhase_cleared {s : State} (hp : s.profile = .later) (h : s.cfg.rbEn = false) :
    settlePhase s = s.setRbPhase .a := by
  simp [settlePhase, State.phaseAtRest, hp, h, Profile.readback]

theorem cfg_congr {s t : State} (h1 : t.profile = s.profile) (h2 : t.pdi = s.pdi) : t.cfg = s.cfg := by
  simp [State.cfg, h1, h2]

theorem phaseFollowsEnable_congr {s t : State} (h : s.PhaseFollowsEnable) (h1 : t.profile = s.profile)
    (h2 : t.pdi = s.pdi) (h3 : t.rbPhase = s.rbPhase) : t.PhaseFollowsEnable := by
  intro hp he
  rw [h3]
  exact h (h1 ▸ hp) (cfg_congr h1 h2 ▸ he)

/-- Where the phase already follows the enable bit, the end of a step changes nothing (R126, R154.4). -/
theorem settlePhase_of_follows {s : State} (h : s.PhaseFollowsEnable) : settlePhase s = s := by
  cases hp : s.profile with
  | base => exact settlePhase_base hp
  | later =>
    cases he : s.cfg.rbEn with
    | true => exact settlePhase_enabled he
    | false => exact settlePhase_phaseA (h hp he)

/-- A state built from one whose phase follows the enable bit, with the same configuration and phase, is settled. -/
theorem settlePhase_of_same {s t : State} (h : s.PhaseFollowsEnable) (h1 : t.profile = s.profile)
    (h2 : t.pdi = s.pdi) (h3 : t.rbPhase = s.rbPhase) : settlePhase t = t :=
  settlePhase_of_follows (phaseFollowsEnable_congr h h1 h2 h3)

/-- A state with the same configuration as one whose enable bit is set is settled. -/
theorem settlePhase_of_enabled {s t : State} (h : s.cfg.rbEn = true) (h1 : t.profile = s.profile)
    (h2 : t.pdi = s.pdi) : settlePhase t = t :=
  settlePhase_enabled (cfg_congr h1 h2 ▸ h)

/-- A state with the same configuration as a LATER one whose enable bit is clear settles in phase A. -/
theorem settlePhase_of_cleared {s t : State} (hp : s.profile = .later) (h : s.cfg.rbEn = false)
    (h1 : t.profile = s.profile) (h2 : t.pdi = s.pdi) : settlePhase t = t.setRbPhase .a :=
  settlePhase_cleared (h1.trans hp) (cfg_congr h1 h2 ▸ h)

/-- Where the end of a step leaves the phase, it follows the enable bit (R126, R154.4). -/
theorem settlePhase_follows (s : State) : (settlePhase s).PhaseFollowsEnable := by
  intro hp he
  have h1 : s.profile = .later := hp
  have h2 : s.cfg.rbEn = false := he
  show s.phaseAtRest = .a
  simp [State.phaseAtRest, h1, h2, Profile.readback]

/-! ### What the component rules leave alone -/

theorem sampleSr_frame (s0 s : State) :
    s.SameReadback (sampleSr s0 s) ∧ s.SameParameters (sampleSr s0 s) ∧ (sampleSr s0 s).inp = s.inp ∧
      (sampleSr s0 s).sdo = s.sdo ∧ (sampleSr s0 s).draws = s.draws := by
  unfold sampleSr sampleSelectLatched sampleCounted
  repeat' split
  all_goals simp [State.SameReadback, State.SameParameters]

theorem presentSr_frame (s0 s : State) :
    s.SameReadback (presentSr s0 s) ∧ s.SameParameters (presentSr s0 s) ∧ (presentSr s0 s).inp = s.inp ∧
      (presentSr s0 s).sr = s.sr ∧ (presentSr s0 s).fresh = s.fresh ∧ (presentSr s0 s).cnt = s.cnt ∧
      (presentSr s0 s).pdi = s.pdi ∧ (presentSr s0 s).draws = s.draws := by
  unfold presentSr
  split <;> simp [State.SameReadback, State.SameParameters]

theorem releaseSr_frame (s0 s : State) :
    s.SameReadback (releaseSr s0 s) ∧ s.SameParameters (releaseSr s0 s) ∧ (releaseSr s0 s).inp = s.inp ∧
      (releaseSr s0 s).sr = s.sr ∧ (releaseSr s0 s).sdo = s.sdo ∧ (releaseSr s0 s).draws = s.draws := by
  unfold releaseSr
  repeat' split
  all_goals simp [State.SameReadback, State.SameParameters]

theorem sampleReadback_frame (s0 s : State) :
    s.SameSr (sampleReadback s0 s) ∧ s.SameParameters (sampleReadback s0 s) ∧ (sampleReadback s0 s).inp = s.inp ∧
      (sampleReadback s0 s).rbPhase = s.rbPhase ∧ (sampleReadback s0 s).sisoOut = s.sisoOut := by
  unfold sampleReadback captureSdo sampleSiso
  repeat' split
  all_goals simp [State.SameSr, State.SameParameters]

theorem presentSiso_frame (s0 s : State) :
    s.SameSr (presentSiso s0 s) ∧ s.SameParameters (presentSiso s0 s) ∧ (presentSiso s0 s).inp = s.inp ∧
      (presentSiso s0 s).rbPhase = s.rbPhase ∧ (presentSiso s0 s).rbCap = s.rbCap ∧
      (presentSiso s0 s).siso = s.siso ∧ (presentSiso s0 s).sisoFresh = s.sisoFresh ∧
      (presentSiso s0 s).draws = s.draws := by
  unfold presentSiso
  split <;> simp [State.SameSr, State.SameParameters]

theorem releaseReadback_frame (s0 s : State) :
    s.SameSr (releaseReadback s0 s) ∧ s.SameParameters (releaseReadback s0 s) ∧ (releaseReadback s0 s).inp = s.inp ∧
      (releaseReadback s0 s).rbCap = s.rbCap ∧ (releaseReadback s0 s).siso = s.siso ∧
      (releaseReadback s0 s).sisoOut = s.sisoOut ∧ (releaseReadback s0 s).draws = s.draws := by
  unfold releaseReadback
  repeat' split
  all_goals simp [State.SameSr, State.SameParameters]

@[simp] theorem settlePhase_profile (s : State) : (settlePhase s).profile = s.profile := rfl
@[simp] theorem settlePhase_protoRev (s : State) : (settlePhase s).protoRev = s.protoRev := rfl
@[simp] theorem settlePhase_sr (s : State) : (settlePhase s).sr = s.sr := rfl
@[simp] theorem settlePhase_sdo (s : State) : (settlePhase s).sdo = s.sdo := rfl
@[simp] theorem settlePhase_fresh (s : State) : (settlePhase s).fresh = s.fresh := rfl
@[simp] theorem settlePhase_cnt (s : State) : (settlePhase s).cnt = s.cnt := rfl
@[simp] theorem settlePhase_pdi (s : State) : (settlePhase s).pdi = s.pdi := rfl
@[simp] theorem settlePhase_rbPhase (s : State) : (settlePhase s).rbPhase = s.phaseAtRest := rfl
@[simp] theorem settlePhase_rbCap (s : State) : (settlePhase s).rbCap = s.rbCap := rfl
@[simp] theorem settlePhase_siso (s : State) : (settlePhase s).siso = s.siso := rfl
@[simp] theorem settlePhase_sisoOut (s : State) : (settlePhase s).sisoOut = s.sisoOut := rfl
@[simp] theorem settlePhase_sisoFresh (s : State) : (settlePhase s).sisoFresh = s.sisoFresh := rfl
@[simp] theorem settlePhase_inp (s : State) : (settlePhase s).inp = s.inp := rfl
@[simp] theorem settlePhase_pending (s : State) : (settlePhase s).pending = s.pending := rfl
@[simp] theorem settlePhase_draws (s : State) : (settlePhase s).draws = s.draws := rfl

/-! ### When a meaning answers a next state -/

theorem execRise_next_iff (s t : State) : execRise s = .next t ↔ s.inp.sck = false ∧ riseEffect s = t := by
  unfold execRise
  cases s.inp.sck <;> simp

theorem execFall_next_iff (s t : State) : execFall s = .next t ↔ s.inp.sck = true ∧ fallEffect s = t := by
  unfold execFall
  cases s.inp.sck <;> simp

theorem execEnv_next_iff (r : EnvRecord) (s t : State) :
    execEnv r s = .next t ↔ r.legal = true ∧ settlePhase (s.setInp (s.inp.withEnv r)) = t := by
  unfold execEnv EnvRecord.legal
  cases r.namesStrap <;> cases r.namesBusLine <;> simp

theorem enterSelector_next_iff (w : SelectorWord) (s t : State) :
    enterSelector w s = .next t ↔ selEffect (w.extractLsb' 0 3) s = t ∧ t.sel4 = w := by
  unfold enterSelector
  split
  · rename_i h
    constructor
    · intro e
      cases e
      exact ⟨rfl, h⟩
    · rintro ⟨rfl, -⟩
      rfl
  · rename_i h
    constructor
    · intro e
      cases e
    · rintro ⟨rfl, e⟩
      exact absurd e h

/-- A next state of `exec` is one of five effects: a clock edge's, a `SEL`'s (the selectors enter by one), an `SDI`'s, or a
legal `ENV`'s. -/
theorem exec_next_cases {i : Instr} {s t : State} (h : exec i s = .next t) :
    (i = .rise ∧ s.inp.sck = false ∧ riseEffect s = t) ∨ (i = .fall ∧ s.inp.sck = true ∧ fallEffect s = t) ∨
      (i ≠ .rise ∧ ∃ c, selEffect c s = t) ∨ (∃ b, i = .sdi b ∧ settlePhase (s.setSdi b) = t) ∨
      (∃ r, i = .env r ∧ r.legal = true ∧ settlePhase (s.setInp (s.inp.withEnv r)) = t) := by
  have enter : ∀ {w : SelectorWord}, enterSelector w s = .next t → ∃ c, selEffect c s = t := fun {w} e =>
    ⟨w.extractLsb' 0 3, ((enterSelector_next_iff w s t).1 e).1⟩
  cases i with
  | rise => exact .inl ⟨rfl, (execRise_next_iff s t).1 h⟩
  | fall => exact .inr (.inl ⟨rfl, (execFall_next_iff s t).1 h⟩)
  | sel c => exact .inr (.inr (.inl ⟨nofun, c, by cases h; rfl⟩))
  | sdi b => exact .inr (.inr (.inr (.inl ⟨b, rfl, by cases h; rfl⟩)))
  | env r => exact .inr (.inr (.inr (.inr ⟨r, rfl, (execEnv_next_iff r s t).1 h⟩)))
  | idle p => exact .inr (.inr (.inl ⟨nofun, 0#3, by cases h; rfl⟩))
  | cfgSel => exact .inr (.inr (.inl ⟨nofun, enter h⟩))
  | attSel => exact .inr (.inr (.inl ⟨nofun, enter h⟩))
  | broadcastSel => exact .inr (.inr (.inl ⟨nofun, enter h⟩))
  | dev0Sel => exact .inr (.inr (.inl ⟨nofun, enter h⟩))
  | dev1Sel => exact .inr (.inr (.inl ⟨nofun, enter h⟩))
  | dev2Sel => exact .inr (.inr (.inl ⟨nofun, enter h⟩))
  | dev3Sel => exact .inr (.inr (.inl ⟨nofun, enter h⟩))
  | rbCfg => exact .inr (.inr (.inl ⟨nofun, enter h⟩))
  | rbAtt => exact .inr (.inr (.inl ⟨nofun, enter h⟩))
  | rbBcast => exact .inr (.inr (.inl ⟨nofun, enter h⟩))
  | rbDev0 => exact .inr (.inr (.inl ⟨nofun, enter h⟩))
  | rbDev1 => exact .inr (.inr (.inl ⟨nofun, enter h⟩))
  | rbDev2 => exact .inr (.inr (.inl ⟨nofun, enter h⟩))
  | rbDev3 => exact .inr (.inr (.inl ⟨nofun, enter h⟩))

/-- `exec` stops with no fault: the core has none (R160). -/
theorem exec_no_fault (i : Instr) (s : State) (r : Fault) : exec i s ≠ .fault r := nomatch r

end Sys2Proof.Machine
end

