-- ==== Sys2Proof/Laws/Effects.lean ====
section
/-! SUPPORT. What the three effects of R146 to R148 leave alone, and the input levels they give. -/

namespace Sys2Proof.Machine

open Sys2Proof

theorem riseEffect_inp (s : State) : (riseEffect s).inp = { s.inp with sck := true } := by
  simp [riseEffect, (sampleReadback_frame s (sampleSr s s)).2.2.1, (sampleSr_frame s s).2.2.1]

theorem fallEffect_inp (s : State) : (fallEffect s).inp = { s.inp with sck := false } := by
  simp [fallEffect, (presentSiso_frame s (presentSr s s)).2.2.1, (presentSr_frame s s).2.2.1]

theorem selEffect_same (s : State) : selEffect s.inp.code s = s := by
  simp [selEffect]

theorem selEffect_inp (c : Code) (s : State) : (selEffect c s).inp = { s.inp with code := c } := by
  by_cases h : c = s.inp.code
  · subst h
    rw [selEffect_same]
  · simp [selEffect, h, (releaseReadback_frame s (releaseSr s s)).2.2.1, (releaseSr_frame s s).2.2.1]

/-- A rising edge keeps the parameters, the trace and both serial-out registers. -/
theorem riseEffect_frame (s : State) :
    s.SameParameters (riseEffect s) ∧ (riseEffect s).sdo = s.sdo ∧ (riseEffect s).sisoOut = s.sisoOut := by
  obtain ⟨⟨-, -, -, h4, -⟩, ⟨h5, h6, h7⟩, -, h8, -⟩ := sampleSr_frame s s
  obtain ⟨⟨-, g1, -⟩, ⟨g2, g3, g4⟩, -, -, g5⟩ := sampleReadback_frame s (sampleSr s s)
  simp_all [riseEffect, State.SameParameters]

/-- A falling edge writes the two serial-out registers, the clock level and the phase, and nothing else. -/
theorem fallEffect_frame (s : State) :
    s.SameParameters (fallEffect s) ∧ (fallEffect s).sr = s.sr ∧ (fallEffect s).fresh = s.fresh ∧
      (fallEffect s).cnt = s.cnt ∧ (fallEffect s).pdi = s.pdi ∧ (fallEffect s).rbCap = s.rbCap ∧
      (fallEffect s).siso = s.siso ∧ (fallEffect s).sisoFresh = s.sisoFresh ∧ (fallEffect s).draws = s.draws := by
  obtain ⟨⟨-, h1, h2, -, h3⟩, ⟨h4, h5, h6⟩, -, h7, h8, h9, h10, h11⟩ := presentSr_frame s s
  obtain ⟨⟨g1, -, g2, g3, g4⟩, ⟨g5, g6, g7⟩, -, -, g8, g9, g10, g11⟩ := presentSiso_frame s (presentSr s s)
  simp_all [fallEffect, State.SameParameters]

/-- A select change leaves the shift registers, the serial-out registers, the capture and the free draws alone. -/
theorem selEffect_frame (c : Code) (s : State) :
    s.SameParameters (selEffect c s) ∧ (selEffect c s).sr = s.sr ∧ (selEffect c s).sdo = s.sdo ∧
      (selEffect c s).rbCap = s.rbCap ∧ (selEffect c s).siso = s.siso ∧ (selEffect c s).sisoOut = s.sisoOut ∧
      (selEffect c s).draws = s.draws := by
  by_cases h : c = s.inp.code
  · subst h
    simp [selEffect_same, State.SameParameters]
  · obtain ⟨⟨-, h1, h2, h3, -⟩, ⟨h4, h5, h6⟩, -, h7, h8, h9⟩ := releaseSr_frame s s
    obtain ⟨⟨g1, g2, -⟩, ⟨g3, g4, g5⟩, -, g6, g7, g8, g9⟩ := releaseReadback_frame s (releaseSr s s)
    simp_all [selEffect, State.SameParameters]

end Sys2Proof.Machine
end

