-- ==== Sys2Proof/Laws/PerInstr.lean ====
section
/-! SUPPORT. Statements about every instruction as syntax, one lemma a constructor: the encoded word lies in the
instruction's row of spec/opcode_table.json (its mask and match, and its format). -/

namespace Sys2Proof.Laws

open Sys2Proof

/-- The mask and match of an instruction's row of the opcode table, and whether the row's format is `event`. -/
structure Row where
  isEvent : Bool
  mask : Nat
  value : Nat
deriving DecidableEq, Repr

/-- The row of spec/opcode_table.json an instruction stands for. -/
def rowOf : Instr → Row
  | .rise => ⟨true, 0xFF, 0x00⟩
  | .fall => ⟨true, 0xFF, 0x20⟩
  | .sel _ => ⟨true, 0xF8, 0x40⟩
  | .sdi _ => ⟨true, 0xFE, 0x60⟩
  | .env _ => ⟨true, 0xFF, 0x80⟩
  | .idle _ => ⟨false, 0x7, 0x0⟩
  | .cfgSel => ⟨false, 0xF, 0x1⟩
  | .attSel => ⟨false, 0xF, 0x2⟩
  | .broadcastSel => ⟨false, 0xF, 0x3⟩
  | .dev0Sel => ⟨false, 0xF, 0x4⟩
  | .dev1Sel => ⟨false, 0xF, 0x5⟩
  | .dev2Sel => ⟨false, 0xF, 0x6⟩
  | .dev3Sel => ⟨false, 0xF, 0x7⟩
  | .rbCfg => ⟨false, 0xF, 0x9⟩
  | .rbAtt => ⟨false, 0xF, 0xA⟩
  | .rbBcast => ⟨false, 0xF, 0xB⟩
  | .rbDev0 => ⟨false, 0xF, 0xC⟩
  | .rbDev1 => ⟨false, 0xF, 0xD⟩
  | .rbDev2 => ⟨false, 0xF, 0xE⟩
  | .rbDev3 => ⟨false, 0xF, 0xF⟩

/-- Does an item's word lie in a row? -/
def Row.holds (r : Row) : Item → Bool
  | .event w _ => r.isEvent && decide (w &&& BitVec.ofNat 8 r.mask = BitVec.ofNat 8 r.value)
  | .selector w => !r.isEvent && decide (w &&& BitVec.ofNat 4 r.mask = BitVec.ofNat 4 r.value)

/-- The instruction's encoded word lies in its row of the table. -/
def TableRow.Statement (i : Instr) : Prop := (rowOf i).holds (encode i) = true

theorem TableRow.rise : TableRow.Statement .rise := rfl
theorem TableRow.fall : TableRow.Statement .fall := rfl
theorem TableRow.sel (c : Code) : TableRow.Statement (.sel c) := by
  unfold TableRow.Statement; revert c; decide
theorem TableRow.sdi (b : Bool) : TableRow.Statement (.sdi b) := by cases b <;> rfl
theorem TableRow.env (r : EnvRecord) : TableRow.Statement (.env r) := by
  simp [TableRow.Statement, rowOf, encode, Row.holds]
theorem TableRow.idle (p : Bool) : TableRow.Statement (.idle p) := by cases p <;> rfl
theorem TableRow.cfgSel : TableRow.Statement .cfgSel := rfl
theorem TableRow.attSel : TableRow.Statement .attSel := rfl
theorem TableRow.broadcastSel : TableRow.Statement .broadcastSel := rfl
theorem TableRow.dev0Sel : TableRow.Statement .dev0Sel := rfl
theorem TableRow.dev1Sel : TableRow.Statement .dev1Sel := rfl
theorem TableRow.dev2Sel : TableRow.Statement .dev2Sel := rfl
theorem TableRow.dev3Sel : TableRow.Statement .dev3Sel := rfl
theorem TableRow.rbCfg : TableRow.Statement .rbCfg := rfl
theorem TableRow.rbAtt : TableRow.Statement .rbAtt := rfl
theorem TableRow.rbBcast : TableRow.Statement .rbBcast := rfl
theorem TableRow.rbDev0 : TableRow.Statement .rbDev0 := rfl
theorem TableRow.rbDev1 : TableRow.Statement .rbDev1 := rfl
theorem TableRow.rbDev2 : TableRow.Statement .rbDev2 := rfl
theorem TableRow.rbDev3 : TableRow.Statement .rbDev3 := rfl

end Sys2Proof.Laws
end

