-- ==== Sys2Proof/Laws/Router.lean ====
section
/-! SUPPORT. The selects and the serial-out line by code and phase (R87 to R98). -/

namespace Sys2Proof.Machine

open Sys2Proof

/-- Bit `i` of a group built channel by channel. -/
theorem ofChannels_getLsbD (f : Channel → Bool) (i : Channel) : (ofChannels f).getLsbD i.val = f i := by
  have h : ∀ a b c d : Bool, ∀ k : Channel,
      (BitVec.ofBool a ++ BitVec.ofBool b ++ BitVec.ofBool c ++ BitVec.ofBool d).getLsbD k.val =
        (if k = 0 then d else if k = 1 then c else if k = 2 then b else a) := by decide
  refine (h _ _ _ _ i).trans ?_
  fin_cases i <;> rfl

/-- Bit `i` of a group built channel by channel, as `simp` writes it. -/
@[simp] theorem ofChannels_getElem (f : Channel → Bool) (i : Channel) : (ofChannels f)[i.val] = f i :=
  ofChannels_getLsbD f i

theorem phaseB_eq_not_phaseA (s : State) : s.phaseB = !s.phaseA := by
  simp [State.phaseA]

theorem selCfg_iff (s : State) : s.selCfg = true ↔ s.inp.code = 1#3 ∧ s.phaseA = true := by
  simp [State.selCfg]

theorem selAtt_iff (s : State) : s.selAtt = true ↔ s.inp.code = 2#3 ∧ s.phaseA = true := by
  simp [State.selAtt]

theorem shared_iff (s : State) (i : Channel) : s.shared i = true ↔ s.inp.enNu = false ∨ s.mask i = false := by
  cases h : s.inp.enNu <;> simp [State.shared, h]

theorem selDds_iff (s : State) (i : Channel) :
    s.selDds i = true ↔
      s.phaseA = true ∧ s.shared i = true ∧ (s.inp.code = channelCode i ∨ (s.inp.code = 3#3 ∧ s.mask i = false)) := by
  simp [State.selDds, State.bcast, and_assoc]

/-- A channel's own code is none of 0 to 3. -/
theorem channelCode_ne (i : Channel) :
    channelCode i ≠ 0#3 ∧ channelCode i ≠ 1#3 ∧ channelCode i ≠ 2#3 ∧ channelCode i ≠ 3#3 := by
  revert i
  decide

theorem channelCode_inj : ∀ i j : Channel, channelCode i = channelCode j → i = j := by decide

/-- The lowest unmasked channel is unmasked, and every channel below it is masked (R98). -/
theorem lowestUnmasked_eq_some {s : State} {j : Channel} :
    s.lowestUnmasked = some j ↔ s.mask j = false ∧ ∀ i : Channel, i < j → s.mask i = true := by
  have key : ∀ (m : Channel → Bool) (j : Channel),
      ((if m 0 = false then some 0 else if m 1 = false then some 1 else if m 2 = false then some 2
        else if m 3 = false then some 3 else none) = some j ↔ m j = false ∧ ∀ i : Channel, i < j → m i = true) := by
    decide
  exact key s.mask j

theorem lowestUnmasked_eq_none {s : State} : s.lowestUnmasked = none ↔ ∀ i : Channel, s.mask i = true := by
  have key : ∀ m : Channel → Bool,
      ((if m 0 = false then some 0 else if m 1 = false then some 1 else if m 2 = false then some 2
        else if m 3 = false then some (3 : Channel) else none) = none ↔ ∀ i : Channel, m i = true) := by
    decide
  exact key s.mask

theorem outSdo_cfg {s : State} (h : s.inp.code = 1#3) : s.outSdo = .known s.sdo := by
  simp [State.outSdo, h]

end Sys2Proof.Machine
end

