-- ==== Sys2Proof/Laws/Step.lean ====
section
/-! SUPPORT. What one step can do, said once. -/

namespace Sys2Proof.Machine

open Sys2Proof

/-- A next state of `step`: nothing was pending and nothing changed, or the head item's instruction gave it. -/
theorem step_next_cases {s t : State} (h : step s = .next t) :
    (s.pending = [] ∧ t = s) ∨
      ∃ it rest i, s.pending = it :: rest ∧ decodeItem it = .instr i ∧ exec i (s.setPending rest) = .next t := by
  unfold step State.fetch at h
  cases hp : s.pending with
  | nil => rw [hp] at h; cases h; exact .inl ⟨rfl, rfl⟩
  | cons it rest =>
    rw [hp] at h
    cases hd : decodeItem it with
    | instr i => exact .inr ⟨it, rest, i, rfl, hd, by simpa [hd] using h⟩
    | invalid e => simp [hd] at h

/-- Placing a selector's phase bit keeps the revision that of a build of the profile (R122). -/
theorem placePhaseBit_revision {s : State} (h : s.protoRev = Config.protoRev s.profile) (w : SelectorWord) :
    (s.placePhaseBit w).protoRev = Config.protoRev (s.placePhaseBit w).profile := by
  unfold State.placePhaseBit
  repeat' split
  all_goals first | exact h | rfl

/-- Placing an item at the head of the trace keeps the revision that of a build of the profile (R122). -/
theorem withFetchWord_revision {s : State} (h : s.protoRev = Config.protoRev s.profile) (nbits w : Nat) :
    (s.withFetchWord nbits w).protoRev = Config.protoRev (s.withFetchWord nbits w).profile := by
  unfold State.withFetchWord State.placeItem
  split
  · exact h
  · exact placePhaseBit_revision h _

end Sys2Proof.Machine
end

