-- ==== Sys2Proof/Laws/Transactions.lean ====
section
/-! SUPPORT. Running and observing sequences of events, piece by piece. -/

namespace Sys2Proof.Machine

open Sys2Proof

@[simp] theorem runEvents_nil (s : State) : runEvents [] s = .next s := rfl

theorem runEvents_cons_next {i : Instr} {s t : State} (h : exec i s = .next t) (l : List Instr) :
    runEvents (i :: l) s = runEvents l t := by
  simp [runEvents, h]

theorem runEvents_append_next {l : List Instr} {s t : State} (h : runEvents l s = .next t) (l' : List Instr) :
    runEvents (l ++ l') s = runEvents l' t := by
  induction l generalizing s with
  | nil => cases h; rfl
  | cons i is ih =>
    cases he : exec i s with
    | next s' =>
      rw [runEvents_cons_next he] at h
      rw [List.cons_append, runEvents_cons_next he, ih h]
    | fault r => exact nomatch r
    | refused r => simp [runEvents, he] at h

@[simp] theorem sampledAtRise_nil {α : Type} (f : State → α) (s : State) : sampledAtRise f [] s = [] := rfl

theorem sampledAtRise_rise {α : Type} (f : State → α) {s t : State} (h : exec .rise s = .next t) (l : List Instr) :
    sampledAtRise f (.rise :: l) s = f s :: sampledAtRise f l t := by
  simp [sampledAtRise, h]

theorem sampledAtRise_other {α : Type} (f : State → α) {i : Instr} {s t : State} (hi : i ≠ .rise)
    (h : exec i s = .next t) (l : List Instr) : sampledAtRise f (i :: l) s = sampledAtRise f l t := by
  simp [sampledAtRise, h, hi]

theorem sampledAtRise_append {α : Type} (f : State → α) {l : List Instr} {s t : State} (h : runEvents l s = .next t)
    (l' : List Instr) : sampledAtRise f (l ++ l') s = sampledAtRise f l s ++ sampledAtRise f l' t := by
  induction l generalizing s with
  | nil => cases h; rfl
  | cons i is ih =>
    cases he : exec i s with
    | next s' =>
      rw [runEvents_cons_next he] at h
      simp [sampledAtRise, he, ih h]
    | fault r => exact nomatch r
    | refused r => simp [runEvents, he] at h

@[simp] theorem length_clkAll (bits : List Bool) : (clkAll bits).length = 3 * bits.length := by
  induction bits with
  | nil => rfl
  | cons b bs ih => simp [clkAll, clkEvents, ih]; omega

/-- `clkAll` sends the bits of a concatenation in turn. -/
theorem clkAll_append (xs ys : List Bool) : clkAll (xs ++ ys) = clkAll xs ++ clkAll ys := by
  induction xs with
  | nil => rfl
  | cons b bs ih => simp [clkAll, ih]

end Sys2Proof.Machine
end

