-- ==== Sys2Proof/Tests/Slice0.lean ====
section
/-! SUPPORT. Tests with expected results from the spec's own examples and vectors, the refusals of ill-formed terms, the
words of the encoding tables, and for every statement with hypotheses a witness that meets them. -/

namespace Sys2Proof.Tests

open Sys2Proof Sys2Proof.Machine

/-! ### Small states -/

/-- The default inputs of 95_test_vectors.md: every channel's PLL locked, everything else 0. -/
def board : Inputs where
  sck := false
  sdi := false
  code := 0#3
  auxSck := false
  auxCs := false
  auxSdi := 0#4
  sw := 0#4
  smpErr := 0#4
  pllLock := 0b1111#4
  ddsSdo := 0#4
  attSdo := false
  en9910 := false
  enNu := false
  enEem1 := false
  strapRsv := false

/-- Some contents for what power-up leaves at `X`. -/
def leftOver : PowerUpContents := ⟨0x5A5A5A#24, true, 0b11001010#8, 0x2AAAAA#23, true⟩

/-- The power-up state of the vectors, each profile's with `PROTO_REV = 0x09`. -/
def demo (p : Profile) : State := { State.powerUp p board leftOver with protoRev := 0x09#7 }

/-- A state with a code selected and a clock level. -/
def sel (s : State) (c : Code) (sck : Bool) : State := { s with inp := { s.inp with code := c, sck := sck } }

/-- LATER in phase A with the enable bit set. -/
def enabledA : State := { demo .later with pdi := 0x800000#24 }

/-- LATER in phase B. -/
def inPhaseB : State := { enabledA with rbPhase := .b }

/-- Every channel masked. -/
def allMasked (s : State) : State := { s with pdi := s.pdi ||| 0x007800#24 }

/-- Does an outcome give a next state that passes? -/
def nextWith (o : Host.Outcome State Fault Refusal) (f : State → Bool) : Bool :=
  match o with
  | .next t => f t
  | .fault _ => false
  | .refused _ => false

/-- Is an outcome this refusal? -/
def refusedAs (o : Host.Outcome State Fault Refusal) (r : Refusal) : Bool :=
  match o with
  | .next _ => false
  | .fault _ => false
  | .refused r' => decide (r' = r)

/-! ### Ill-formed terms (R64) -/

theorem test_wf_env_names_sck : Instr.wellFormed (.env { sck := some true }) = false := by decide
theorem test_wf_env_names_sdi : Instr.wellFormed (.env { sdi := some true }) = false := by decide
theorem test_wf_env_names_code : Instr.wellFormed (.env { code := some 1#3 }) = false := by decide
theorem test_wf_env_names_en9910 : Instr.wellFormed (.env { en9910 := some true }) = false := by decide
theorem test_wf_env_names_enNu : Instr.wellFormed (.env { enNu := some true }) = false := by decide
theorem test_wf_env_names_enEem1 : Instr.wellFormed (.env { enEem1 := some true }) = false := by decide
theorem test_wf_env_names_strapRsv : Instr.wellFormed (.env { strapRsv := some true }) = false := by decide

/-! ### Words of R62's and R66's tables -/

theorem test_decode_rise : decodeItem (.event 0b00000000#8 .empty) = .instr .rise := by decide
theorem test_decode_fall : decodeItem (.event 0b00100000#8 .empty) = .instr .fall := by decide
theorem test_decode_sel : decodeItem (.event 0b01000110#8 .empty) = .instr (.sel 6#3) := by decide
theorem test_decode_sdi : decodeItem (.event 0b01100001#8 .empty) = .instr (.sdi true) := by decide
theorem test_decode_env :
    decodeItem (.event 0b10000000#8 { sw := some 0b1000#4 }) = .instr (.env { sw := some 0b1000#4 }) := by decide
theorem test_decode_idle :
    decodeItem (.selector 0b0000#4) = .instr (.idle false) ∧ decodeItem (.selector 0b1000#4) = .instr (.idle true) := by
  decide
theorem test_decode_cfg_sel : decodeItem (.selector 0b0001#4) = .instr .cfgSel := by decide
theorem test_decode_att_sel : decodeItem (.selector 0b0010#4) = .instr .attSel := by decide
theorem test_decode_broadcast_sel : decodeItem (.selector 0b0011#4) = .instr .broadcastSel := by decide
theorem test_decode_dev0_sel : decodeItem (.selector 0b0100#4) = .instr .dev0Sel := by decide
theorem test_decode_dev1_sel : decodeItem (.selector 0b0101#4) = .instr .dev1Sel := by decide
theorem test_decode_dev2_sel : decodeItem (.selector 0b0110#4) = .instr .dev2Sel := by decide
theorem test_decode_dev3_sel : decodeItem (.selector 0b0111#4) = .instr .dev3Sel := by decide
theorem test_decode_rb_cfg : decodeItem (.selector 0b1001#4) = .instr .rbCfg := by decide
theorem test_decode_rb_att : decodeItem (.selector 0b1010#4) = .instr .rbAtt := by decide
theorem test_decode_rb_bcast : decodeItem (.selector 0b1011#4) = .instr .rbBcast := by decide
theorem test_decode_rb_dev0 : decodeItem (.selector 0b1100#4) = .instr .rbDev0 := by decide
theorem test_decode_rb_dev1 : decodeItem (.selector 0b1101#4) = .instr .rbDev1 := by decide
theorem test_decode_rb_dev2 : decodeItem (.selector 0b1110#4) = .instr .rbDev2 := by decide
theorem test_decode_rb_dev3 : decodeItem (.selector 0b1111#4) = .instr .rbDev3 := by decide

/-- A record on a word that is not `ENV` spells no event (R62, R64). -/
theorem test_decode_stray_record :
    decodeItem (.event 0x00#8 { sw := some 1#4 }) = .invalid (.strayRecord 0x00#8) := by decide

/-- The table's words as the host hands them over: an 8-bit `SEL 7`, a 4-bit selector, an unused kind. -/
theorem test_table_words :
    decodeTableWord 8 0x47 = some (.sel 7#3) ∧ decodeTableWord 4 0b1101 = some .rbDev1 ∧
      decodeTableWord 8 0xA0 = none := by decide

/-! ### One step of each instruction -/

/-- R146's example. -/
theorem test_rise_first_edge :
    nextWith (exec .rise { sel (demo .base) 1#3 false with inp := { board with code := 1#3, sdi := true } })
      (fun t => decide (t.sr = 0x121E01#24 ∧ t.fresh = false ∧ t.inp.sck = true)) = true := by decide

/-- R130's example. -/
theorem test_rise_loads_siso :
    nextWith (exec .rise (sel inPhaseB 1#3 false))
      (fun t => decide (t.siso = 0x000009#23 ∧ t.sisoFresh = false ∧ t.sr = inPhaseB.sr)) = true := by decide

/-- R147's example: `0x121E01` has bit 23 clear. -/
theorem test_fall_presents_msb :
    nextWith (exec .fall { sel (demo .base) 1#3 true with sr := 0x121E01#24, fresh := false })
      (fun t => decide (t.sdo = false ∧ t.inp.sck = false)) = true := by decide

/-- R63. -/
theorem test_fall_with_clock_low : refusedAs (exec .fall (demo .base)) .fallWithClockLow = true := by decide

/-- R148's example. -/
theorem test_sel_latches_in_base :
    nextWith (exec (.sel 0#3) { sel (demo .base) 1#3 false with sr := 0x243C03#24, fresh := false })
      (fun t => decide (t.pdi = 0x243C03#24 ∧ t.fresh = true ∧ t.inp.code = 0#3)) = true := by decide

/-- V-B5: in phase B, `SEL 5` ends code 2 and enters phase A. -/
theorem test_sel_flips_phase :
    nextWith (exec (.sel 5#3) (sel inPhaseB 2#3 false)) (fun t => decide (t.rbPhase = .a ∧ t.inp.code = 5#3)) = true := by
  decide

/-- R149's example: `SDI 1` at level 1 is no change. -/
theorem test_sdi_same_level :
    nextWith (exec (.sdi true) { demo .base with inp := { board with sdi := true } })
      (fun t => decide (t = { demo .base with inp := { board with sdi := true } })) = true := by decide

/-- R149: the level reaches the shared-path data lines in the same step. -/
theorem test_sdi_reaches_outputs :
    nextWith (exec (.sdi true) (demo .later))
      (fun t => decide (t.outputs.attSdi = true ∧ t.outputs.ddsSdi = 0b1111#4)) = true := by decide

/-- R150's example: bit 11 of STATUS becomes 0. -/
theorem test_env_pll_lock :
    nextWith (exec (.env { pllLock := some 0b0111#4 }) (demo .base)) (fun t => decide (t.status = 0x090700#24)) = true := by
  decide

/-- R64, R152: a strap is not an `ENV`'s to change. -/
theorem test_env_strap : refusedAs (exec (.env { enNu := some true }) (demo .base)) .envNamesStrap = true := by decide

/-- V-R1, code 0. -/
theorem test_idle :
    nextWith (exec (.idle false) (sel (demo .base) 4#3 false))
      (fun t => decide (t.outputs.ddsCs = 0b0000#4 ∧ t.outputs.attCs = false ∧ t.outputs.sdo = .x)) = true := by decide

/-- V-R1, code 1. -/
theorem test_cfg_sel :
    nextWith (exec .cfgSel (demo .base))
      (fun t => decide (t.outputs.ddsCs = 0b0000#4 ∧ t.outputs.sdo = .known t.sdo ∧ t.selCfg = true)) = true := by decide

/-- V-R1, code 2, `in.att_sdo = 1`. -/
theorem test_att_sel :
    nextWith (exec .attSel { demo .base with inp := { board with attSdo := true } })
      (fun t => decide (t.outputs.attCs = true ∧ t.outputs.attLe = false ∧ t.outputs.sdo = .known true)) = true := by decide

/-- V-R2, code 3 (Scenario C): `mask = 0b0010`. -/
theorem test_broadcast_sel :
    nextWith (exec .broadcastSel { demo .base with pdi := 0x001000#24, inp := { board with ddsSdo := 0b0101#4 } })
      (fun t => decide (t.outputs.ddsCs = 0b1101#4 ∧ t.outputs.sdo = .known true)) = true := by decide

/-- R105's example. -/
theorem test_dev0_sel :
    nextWith (exec .dev0Sel (demo .base)) (fun t => decide (t.outputs.ddsCs = 0b0001#4)) = true := by decide

/-- V-R6, code 5: channel 1 on the auxiliary path. -/
theorem test_dev1_sel_auxiliary :
    nextWith (exec .dev1Sel { demo .base with pdi := 0x001000#24, inp := { board with enNu := true, auxCs := true } })
      (fun t => decide (t.outputs.ddsCs = 0b0010#4 ∧ t.outputs.sdo = .x)) = true := by decide

/-- V-R8, code 6: `mask = 0b1001`, `in.dds_sdo = 0b0101`. -/
theorem test_dev2_sel :
    nextWith
      (exec .dev2Sel { demo .base with
        pdi := 0x004800#24, inp := { board with enNu := true, auxCs := true, ddsSdo := 0b0101#4 } })
      (fun t => decide (t.outputs.ddsCs = 0b1101#4 ∧ t.outputs.sdo = .known true)) = true := by decide

/-- R108's example. -/
theorem test_dev3_sel_auxiliary :
    nextWith (exec .dev3Sel { demo .base with pdi := 0x004000#24, inp := { board with enNu := true } })
      (fun t => decide (t.outputs.ddsCs = 0b0000#4 ∧ t.outputs.sdo = .x)) = true := by decide

/-- V-R9: no select in phase B, whatever the code; and R67: no phase B in BASE. -/
theorem test_rb_cfg :
    nextWith (exec .rbCfg inPhaseB) (fun t => decide (t.selCfg = false ∧ t.inp.code = 1#3)) = true ∧
      refusedAs (exec .rbCfg (demo .base)) (.selectorNotEntered 0b1001#4) = true := by decide
theorem test_rb_att :
    nextWith (exec .rbAtt inPhaseB)
      (fun t => decide (t.outputs.attCs = false ∧ t.outputs.attLe = true ∧ t.inp.code = 2#3)) = true := by decide
theorem test_rb_bcast :
    nextWith (exec .rbBcast inPhaseB) (fun t => decide (t.outputs.ddsCs = 0#4 ∧ t.inp.code = 3#3)) = true := by decide
theorem test_rb_dev0 :
    nextWith (exec .rbDev0 inPhaseB) (fun t => decide (t.outputs.ddsCs = 0#4 ∧ t.inp.code = 4#3)) = true := by decide
theorem test_rb_dev1 :
    nextWith (exec .rbDev1 inPhaseB) (fun t => decide (t.outputs.ddsCs = 0#4 ∧ t.inp.code = 5#3)) = true := by decide
theorem test_rb_dev2 :
    nextWith (exec .rbDev2 inPhaseB) (fun t => decide (t.outputs.ddsCs = 0#4 ∧ t.inp.code = 6#3)) = true := by decide
theorem test_rb_dev3 :
    nextWith (exec .rbDev3 inPhaseB) (fun t => decide (t.outputs.ddsCs = 0#4 ∧ t.inp.code = 7#3)) = true := by decide

/-! ### Words of the register formats -/

/-- V-T1 and V-T2. -/
theorem test_status :
    (demo .base).status = 0x090F00#24 ∧
      ({ demo .base with
        pdi := 0x123456#24
        inp := { board with sw := 0b1000#4, smpErr := 0b0100#4, pllLock := 0b1101#4, en9910 := true } } : State).status =
        0x091D4E#24 := by decide

/-- V-F1. -/
theorem test_cfg_base :
    decodeCfg .base 0x123456#24 = ⟨6#4, 5#4, 4#3, 6#4, false, 0#2, true, false, false, 0#2, false⟩ := by decide

/-- V-F6. -/
theorem test_cfg_later :
    decodeCfg .later 0x123456#24 = ⟨6#4, 5#4, 4#3, 6#4, false, 2#2, false, false, true, 0#2, false⟩ := by decide

/-! ### Witnesses: for each statement with hypotheses, states and operands that meet them, one for each clause -/

theorem witness_StepRunsDecodedItem :
    ({ demo .base with pending := [.event 0x41#8 .empty, .selector 0#4] } : State).pending =
        [.event 0x41#8 .empty, .selector 0#4] ∧
      decodeItem (.event 0x41#8 .empty) = .instr (.sel 1#3) := by decide

theorem witness_WordsThatSpellNoEventAreRefused :
    ({ demo .base with pending := [.event 0xA0#8 .empty] } : State).pending = [.event 0xA0#8 .empty] ∧
      (0xA0#8).extractLsb' 5 3 = 0b101#3 ∧ (0xBF#8).extractLsb' 5 3 = 0b101#3 ∧ (0xC0#8).extractLsb' 5 3 = 0b110#3 ∧
      (0xFF#8).extractLsb' 5 3 = 0b111#3 ∧
      ((0x01#8).extractLsb' 5 3 = 0b000#3 ∧ (0x01#8).extractLsb' 0 5 ≠ 0#5) ∧
      ((0x3F#8).extractLsb' 5 3 = 0b001#3 ∧ (0x3F#8).extractLsb' 0 5 ≠ 0#5) ∧
      ((0x48#8).extractLsb' 5 3 = 0b010#3 ∧ (0x48#8).extractLsb' 3 2 ≠ 0#2) ∧
      ((0x62#8).extractLsb' 5 3 = 0b011#3 ∧ (0x62#8).extractLsb' 1 4 ≠ 0#4) ∧
      ((0x81#8).extractLsb' 5 3 = 0b100#3 ∧ (0x81#8).extractLsb' 0 5 ≠ 0#5) := by decide

theorem witness_NothingPendingKeepsTheState : (demo .later).pending = [] := by decide

theorem witness_DecodeOfEncode :
    Instr.wellFormed (.env { sw := some 0b1111#4 }) = true ∧ Instr.wellFormed (.sel 7#3) = true ∧
      Instr.wellFormed (.idle true) = true := by decide

theorem witness_EncodeOfDecode :
    decodeItem (.event 0x47#8 .empty) = .instr (.sel 7#3) ∧ decodeItem (.selector 0x8#4) = .instr (.idle true) := by decide

theorem witness_RiseInBase :
    ((sel (demo .base) 1#3 false).profile = .base ∧ (sel (demo .base) 1#3 false).inp.sck = false ∧
      (sel (demo .base) 1#3 false).inp.code = 1#3 ∧ (sel (demo .base) 1#3 false).fresh = true) ∧
    ((sel (demo .base) 2#3 false).profile = .base ∧ (sel (demo .base) 2#3 false).inp.sck = false ∧
      (sel (demo .base) 2#3 false).inp.code ≠ 1#3) := by decide

theorem witness_RiseInLaterCfgTransaction :
    (∃ s : State, s.profile = .later ∧ s.rbPhase = .a ∧ s.inp.code = 1#3 ∧ s.inp.sck = false ∧ s.cnt = 0#5) ∧
    (∃ s : State, s.profile = .later ∧ s.rbPhase = .a ∧ s.inp.code = 1#3 ∧ s.inp.sck = false ∧ s.cnt = 1#5) :=
  ⟨⟨{ sel (demo .later) 1#3 false with cnt := 0#5 }, by decide⟩,
    ⟨{ sel (demo .later) 1#3 false with cnt := 1#5 }, by decide⟩⟩

theorem witness_RiseInLaterDeviceTransaction :
    (∃ s : State, s.profile = .later ∧ s.rbPhase = .a ∧ s.inp.code ≠ 0#3 ∧ s.inp.code ≠ 1#3 ∧ s.inp.sck = false ∧
      s.outSdo = .known false) ∧
    (∃ s : State, s.profile = .later ∧ s.rbPhase = .a ∧ s.inp.code ≠ 0#3 ∧ s.inp.code ≠ 1#3 ∧ s.inp.sck = false ∧
      s.outSdo = .x) :=
  ⟨⟨sel (demo .later) 7#3 false, by decide⟩, ⟨sel (allMasked (demo .later)) 3#3 false, by decide⟩⟩

theorem witness_RiseInPhaseB :
    (∃ s : State, s.profile = .later ∧ s.rbPhase = .b ∧ s.cfg.rbEn = true ∧ s.inp.code ≠ 0#3 ∧ s.inp.sck = false ∧
      s.sisoFresh = true) ∧
    (∃ s : State, s.profile = .later ∧ s.rbPhase = .b ∧ s.cfg.rbEn = true ∧ s.inp.code ≠ 0#3 ∧ s.inp.sck = false ∧
      s.sisoFresh = false) ∧
    (∃ s : State, s.profile = .base ∧ s.inp.sck = false) ∧
    (∃ s : State, s.profile = .later ∧ s.rbPhase = .a ∧ s.inp.code = 7#3 ∧ s.inp.sck = false) ∧
    (∃ s : State, s.profile = .later ∧ s.rbPhase = .b ∧ s.inp.code = 0#3 ∧ s.inp.sck = false) :=
  ⟨⟨sel inPhaseB 1#3 false, by decide⟩, ⟨{ sel inPhaseB 7#3 false with sisoFresh := false }, by decide⟩,
    ⟨demo .base, by decide⟩, ⟨sel enabledA 7#3 false, by decide⟩, ⟨inPhaseB, by decide⟩⟩

theorem witness_FallInCfgTransaction :
    (∃ s : State, s.selCfg = true ∧ s.PhaseFollowsEnable ∧ s.inp.sck = true) ∧
    (∃ s : State, s.selCfg = false ∧ s.inp.sck = true) :=
  ⟨⟨sel (demo .later) 1#3 true, by decide⟩, ⟨sel inPhaseB 1#3 true, by decide⟩⟩

theorem witness_FallInPhaseB :
    (∃ s : State, s.profile = .later ∧ s.rbPhase = .b ∧ s.cfg.rbEn = true ∧ s.inp.code ≠ 0#3 ∧ s.inp.sck = true) ∧
    (∃ s : State, s.profile = .base ∧ s.inp.sck = true) ∧
    (∃ s : State, s.profile = .later ∧ s.rbPhase = .a ∧ s.inp.sck = true) ∧
    (∃ s : State, s.profile = .later ∧ s.rbPhase = .b ∧ s.inp.code = 0#3 ∧ s.inp.sck = true) :=
  ⟨⟨sel inPhaseB 7#3 true, by decide⟩, ⟨sel (demo .base) 1#3 true, by decide⟩, ⟨sel enabledA 1#3 true, by decide⟩,
    ⟨sel inPhaseB 0#3 true, by decide⟩⟩

theorem witness_ClockEdgesElsewhere :
    (∃ s : State, s.PhaseFollowsEnable ∧ s.inp.code = 0#3 ∧ s.inp.sck = false) ∧
    (∃ s : State, s.PhaseFollowsEnable ∧ s.inp.code = 0#3 ∧ s.inp.sck = true) ∧
    (∃ s : State, s.PhaseFollowsEnable ∧ s.inp.code ≠ 1#3 ∧ s.inp.code ≠ 0#3 ∧ s.phaseA = true ∧ s.inp.sck = true) :=
  ⟨⟨inPhaseB, by decide⟩, ⟨sel inPhaseB 0#3 true, by decide⟩, ⟨sel enabledA 2#3 true, by decide⟩⟩

theorem witness_ClockEdgesLeaveUnselectedSr :
    (∃ s : State, s.selCfg = false ∧ s.inp.sck = false) ∧ (∃ s : State, s.selCfg = false ∧ s.inp.sck = true) :=
  ⟨⟨sel inPhaseB 1#3 false, by decide⟩, ⟨sel (demo .base) 7#3 true, by decide⟩⟩

theorem witness_RepeatedEdgesAndLevels :
    (sel (demo .base) 0#3 true).inp.sck = true ∧ (demo .base).inp.sck = false ∧ inPhaseB.PhaseFollowsEnable := by decide

theorem witness_SelEndsBaseCfgTransaction :
    (∃ s : State, s.profile = .base ∧ s.inp.code = 1#3 ∧ 0#3 ≠ 1#3 ∧ s.fresh = false) ∧
    (∃ s : State, s.profile = .base ∧ s.inp.code = 1#3 ∧ 7#3 ≠ 1#3 ∧ s.fresh = true) :=
  ⟨⟨{ sel (demo .base) 1#3 false with fresh := false }, by decide⟩, ⟨sel (demo .base) 1#3 false, by decide⟩⟩

theorem witness_SelEndsLaterCfgTransaction :
    (∃ s : State, s.profile = .later ∧ s.rbPhase = .a ∧ s.inp.code = 1#3 ∧ 0#3 ≠ 1#3 ∧ s.cfg.rbEn = true) ∧
    (∃ s : State, s.profile = .later ∧ s.rbPhase = .a ∧ s.inp.code = 1#3 ∧ 7#3 ≠ 1#3 ∧ s.cfg.rbEn = false) :=
  ⟨⟨sel enabledA 1#3 false, by decide⟩, ⟨sel (demo .later) 1#3 true, by decide⟩⟩

theorem witness_SelEndsLaterDeviceTransaction :
    (∃ s : State, s.profile = .later ∧ s.rbPhase = .a ∧ s.inp.code ≠ 0#3 ∧ s.inp.code ≠ 1#3 ∧ 1#3 ≠ s.inp.code) :=
  ⟨sel enabledA 2#3 false, by decide⟩

theorem witness_SelEndsPhaseBTransaction :
    (∃ s : State, s.profile = .later ∧ s.rbPhase = .b ∧ s.cfg.rbEn = true ∧ s.inp.code ≠ 0#3 ∧ 0#3 ≠ s.inp.code) :=
  ⟨sel inPhaseB 1#3 false, by decide⟩

theorem witness_SelThatWritesTheCodeAlone :
    (∃ s : State, s.PhaseFollowsEnable ∧ s.inp.code = 0#3) ∧
    (∃ s : State, s.PhaseFollowsEnable ∧ s.profile = .base ∧ s.inp.code ≠ 1#3 ∧ s.inp.code ≠ 0#3) :=
  ⟨⟨inPhaseB, by decide⟩, ⟨sel (demo .base) 2#3 false, by decide⟩⟩

theorem witness_SelectChangesFrame :
    (∃ t, exec (.sel 5#3) (sel inPhaseB 2#3 true) = .next t) ∧ (∃ t, exec (.idle true) (demo .base) = .next t) ∧
    (∃ t, exec .dev3Sel (demo .base) = .next t) ∧ (∃ t, exec .rbDev3 inPhaseB = .next t) :=
  ⟨⟨_, rfl⟩, ⟨_, rfl⟩, ⟨_, rfl⟩, ⟨_, rfl⟩⟩

theorem witness_SdiSetsSerialIn :
    inPhaseB.PhaseFollowsEnable ∧ (demo .base).PhaseFollowsEnable ∧
      nextWith (exec (.sdi true) (demo .base)) (fun t => t.shared 3) = true := by decide

theorem witness_EnvSetsNamedInputs :
    inPhaseB.PhaseFollowsEnable ∧ (EnvRecord.namesBusLine { sw := some 1#4, attSdo := some true } = false) ∧
      (EnvRecord.namesStrap { sw := some 1#4, attSdo := some true } = false) := by decide

theorem witness_EnvRefusesForbiddenInputs :
    ({ sck := some false } : EnvRecord).sck ≠ none ∧ ({ sdi := some false } : EnvRecord).sdi ≠ none ∧
      ({ code := some 0#3 } : EnvRecord).code ≠ none ∧ ({ en9910 := some false } : EnvRecord).en9910 ≠ none ∧
      ({ enNu := some false } : EnvRecord).enNu ≠ none ∧ ({ enEem1 := some false } : EnvRecord).enEem1 ≠ none ∧
      ({ strapRsv := some false } : EnvRecord).strapRsv ≠ none := by decide

theorem witness_IdleSelector :
    (sel inPhaseB 5#3 false).PhaseFollowsEnable ∧ (sel inPhaseB 5#3 true).PhaseFollowsEnable ∧
      nextWith (exec (.idle false) (sel inPhaseB 5#3 false)) (fun t => !t.inp.sck) = true ∧
      nextWith (exec (.idle false) (sel inPhaseB 5#3 true)) (fun t => t.inp.sck) = true := by decide

/-- Every way into phase A: BASE, LATER from rest, LATER ending a phase-B transaction, LATER with the enable bit clear. -/
theorem witness_phase_A_selectors :
    (demo .base).EntersPhaseA 1#3 ∧ enabledA.EntersPhaseA 1#3 ∧ (sel inPhaseB 5#3 false).EntersPhaseA 1#3 ∧
      (sel (demo .later) 5#3 false).EntersPhaseA 1#3 ∧
      (demo .base).EntersPhaseA 2#3 ∧ enabledA.EntersPhaseA 2#3 ∧ (demo .base).EntersPhaseA 3#3 ∧
      (allMasked enabledA).EntersPhaseA 3#3 ∧ (demo .base).EntersPhaseA 4#3 ∧ enabledA.EntersPhaseA 5#3 ∧
      (sel inPhaseB 1#3 false).EntersPhaseA 6#3 ∧ (sel enabledA 7#3 false).EntersPhaseA 7#3 := by decide

theorem witness_CfgSelector : (demo .base).EntersPhaseA 1#3 ∧ enabledA.EntersPhaseA 1#3 := by decide
theorem witness_AttSelector : (demo .base).EntersPhaseA 2#3 ∧ enabledA.EntersPhaseA 2#3 := by decide

theorem witness_BroadcastSelector :
    (demo .base).EntersPhaseA 3#3 ∧
      nextWith (exec .broadcastSel (demo .base)) (fun t => decide (t.mask 0 = false)) = true ∧
      (allMasked enabledA).EntersPhaseA 3#3 ∧
      nextWith (exec .broadcastSel (allMasked enabledA)) (fun t => t.mask 0 && t.mask 1 && t.mask 2 && t.mask 3) = true := by
  decide

theorem witness_DeviceSelectors :
    (demo .base).EntersPhaseA 4#3 ∧ (demo .base).EntersPhaseA 5#3 ∧ (demo .base).EntersPhaseA 6#3 ∧
      (demo .base).EntersPhaseA 7#3 := by decide

theorem witness_ReadbackSelectors :
    inPhaseB.EntersPhaseB 1#3 ∧ (sel enabledA 7#3 false).EntersPhaseB 2#3 ∧ inPhaseB.EntersPhaseB 3#3 ∧
      inPhaseB.EntersPhaseB 4#3 ∧ inPhaseB.EntersPhaseB 5#3 ∧ inPhaseB.EntersPhaseB 6#3 ∧
      (sel inPhaseB 7#3 false).EntersPhaseB 7#3 ∧
      nextWith (exec .rbCfg inPhaseB) (fun t => !t.inp.sck && t.sisoFresh) = true := by decide

theorem witness_BaseHasNoReadbackSelectors : (demo .base).profile = .base := by decide

theorem witness_RoutingIsExclusive :
    (sel (demo .base) 7#3 false).phaseA = true ∧ (sel (demo .base) 7#3 false).inp.code ≠ 3#3 ∧
      (sel (demo .base) 7#3 false).selDds 3 = true := by decide

theorem witness_PhaseBSelectsNothing : (sel inPhaseB 1#3 false).phaseA = false ∧ inPhaseB.shared 3 = true := by decide

theorem witness_AuxiliaryPathBypass :
    (∃ s : State, s.inp.enNu = true ∧ s.mask 3 = true) ∧ ¬((demo .base).inp.enNu = true ∧ (demo .base).mask 0 = true) :=
  ⟨⟨allMasked { demo .base with inp := { board with enNu := true } }, by decide⟩, by decide⟩

theorem witness_SerialOutMultiplexer :
    (demo .base).inp.code = 0#3 ∧ (sel (demo .base) 1#3 false).inp.code = 1#3 ∧
      (sel (demo .base) 2#3 false).inp.code = 2#3 ∧
      ((sel (demo .base) 3#3 false).inp.code = 3#3 ∧ (demo .base).mask 0 = false) ∧
      (∀ i, (sel (allMasked (demo .base)) 3#3 false).mask i = true) ∧
      (∀ i : Channel, (sel (demo .base) (BitVec.ofNat 3 (4 + i.val)) false).inp.code = BitVec.ofNat 3 (4 + i.val)) := by
  decide

/-- The channel-3 end of the broadcast clause: channels 0 to 2 masked. -/
theorem witness_SerialOutMultiplexer_lowest :
    (∃ s : State, s.inp.code = 3#3 ∧ s.mask 3 = false ∧ ∀ i : Channel, i < 3 → s.mask i = true) :=
  ⟨sel { demo .base with pdi := 0x003800#24 } 3#3 false, by decide⟩

theorem witness_BaseConfigurationDrivesOutputs : (demo .base).profile = .base := by decide
theorem witness_LaterConfigurationDrivesOutputs : (demo .later).profile = .later := by decide

theorem witness_ReservedBitsDriveNothing :
    (demo .base).profile = .base ∧ (0xF00000#24).extractLsb' 0 20 = (demo .base).pdi.extractLsb' 0 20 ∧
      0xF00000#24 ≠ (demo .base).pdi := by decide

theorem witness_StepKeepsInvariants :
    (∃ s t : State, s.Inv ∧ s.pending ≠ [] ∧ step s = .next t) :=
  ⟨{ sel inPhaseB 2#3 false with pending := [.event 0x00#8 .empty] }, _, by decide, by decide, rfl⟩

theorem witness_ProfilesHaveDifferentRevisions :
    (State.powerUp .base board leftOver).RevisionOfBuild ∧ (State.powerUp .later board leftOver).RevisionOfBuild ∧
      (State.powerUp .base board leftOver).profile ≠ (State.powerUp .later board leftOver).profile :=
  ⟨rfl, rfl, by decide⟩

theorem witness_StepKeepsStrapsAndBuild :
    (∃ s t : State, s.RevisionOfBuild ∧ s.pending ≠ [] ∧ step s = .next t) :=
  ⟨{ State.powerUp .later board leftOver with pending := [.event 0x80#8 { sw := some 1#4 }] }, _, rfl, by decide, rfl⟩

theorem witness_ConfigurationChangesOnlyByLatch :
    (∃ t : State, exec (.sel 0#3) { sel (demo .base) 1#3 false with fresh := false } = .next t ∧ t.pdi ≠ 0#24) ∧
    (∃ t : State, exec .rise { sel (demo .later) 1#3 false with cnt := 0#5, fresh := false } = .next t ∧
      t.pdi ≠ 0#24) :=
  ⟨⟨_, rfl, by decide⟩, ⟨_, rfl, by decide⟩⟩

theorem witness_PhaseIsConstantWithinSelection :
    (∃ t : State, (sel inPhaseB 2#3 false).PhaseFollowsEnable ∧ exec .rise (sel inPhaseB 2#3 false) = .next t ∧
      t.inp.code = (sel inPhaseB 2#3 false).inp.code) ∧
    (∃ t : State, inPhaseB.PhaseFollowsEnable ∧ exec (.sel 7#3) inPhaseB = .next t ∧ inPhaseB.inp.code = 0#3) :=
  ⟨⟨_, by decide, rfl, by decide⟩, ⟨_, by decide, rfl, by decide⟩⟩

/-- The latch that clears the enable bit: the last sample edge of a frame of zeros. -/
theorem witness_PhaseRestsWhileDisabled :
    (∃ t : State, enabledA.PhaseFollowsEnable ∧
      exec .rise { sel enabledA 1#3 false with cnt := 0#5, fresh := false, sr := 0#24 } = .next t ∧ t.cfg.rbEn = false) :=
  ⟨_, by decide, rfl, by decide⟩

theorem witness_PhaseBLeavesTheSr :
    (∃ t : State, (sel inPhaseB 1#3 false).phaseA = false ∧ exec .rise (sel inPhaseB 1#3 false) = .next t) :=
  ⟨_, by decide, rfl⟩

theorem witness_BaseLeavesReadbackState :
    (∃ t : State, (sel (demo .base) 3#3 false).profile = .base ∧ exec .rise (sel (demo .base) 3#3 false) = .next t) ∧
    (∃ r : Refusal, (demo .base).profile = .base ∧ exec .fall (demo .base) = .refused r) :=
  ⟨⟨_, by decide, rfl⟩, ⟨_, by decide, rfl⟩⟩

theorem witness_BaseTransactionLatch :
    (demo .base).profile = .base ∧ (demo .base).Quiescent ∧ (demo .base).fresh = true ∧ ([true] : List Bool) ≠ [] := by
  decide

theorem witness_BaseReadWord : (demo .base).profile = .base ∧ (demo .base).Quiescent ∧ (demo .base).fresh = true := by decide

theorem witness_LaterTransactionLatch :
    (demo .later).profile = .later ∧ (demo .later).rbPhase = .a ∧ (demo .later).Quiescent ∧ (demo .later).fresh = true ∧
      (demo .later).cnt = 23#5 ∧ (List.replicate 23 true).length < 24 ∧ 24 ≤ (List.replicate 24 true).length := by decide

theorem witness_LaterFirstFrameReadWord :
    (demo .later).profile = .later ∧ (demo .later).rbPhase = .a ∧ (demo .later).Quiescent ∧ (demo .later).fresh = true ∧
      (demo .later).cnt = 23#5 := by decide

theorem witness_LaterFramesReadWord :
    (demo .later).profile = .later ∧ (demo .later).rbPhase = .a ∧ (demo .later).Quiescent ∧ (demo .later).fresh = true ∧
      (demo .later).cnt = 23#5 ∧ 1 ≤ 1 ∧ 0 < 24 ∧ 24 * 1 + 0 < (List.replicate 25 true).length ∧
      23 < 24 ∧ 24 * 2 + 23 < (List.replicate 72 true).length := by decide

theorem witness_ReadbackTransaction :
    inPhaseB.profile = .later ∧ inPhaseB.rbPhase = .b ∧ inPhaseB.cfg.rbEn = true ∧ inPhaseB.Quiescent ∧
      inPhaseB.sisoFresh = true ∧ 2#3 ≠ 0#3 := by decide

theorem witness_ZeroEdgeTransaction :
    (demo .base).Inv ∧ (demo .base).inp.code = 0#3 ∧ inPhaseB.Inv ∧ inPhaseB.inp.code = 0#3 ∧ 7#3 ≠ 0#3 := by decide

theorem witness_IdleClocksChangeNothing : inPhaseB.PhaseFollowsEnable ∧ inPhaseB.Quiescent := by decide

theorem witness_TwoDisablingWritesRecover :
    inPhaseB.profile = .later ∧ inPhaseB.Inv ∧ inPhaseB.Quiescent ∧ (0x7FFFFF#24).getLsbD 23 = false := by decide

theorem witness_EnablingWriteLeadsToPhaseB :
    (demo .later).profile = .later ∧ (demo .later).rbPhase = .a ∧ (demo .later).Quiescent ∧ (demo .later).fresh = true ∧
      (demo .later).cnt = 23#5 ∧ (0x800000#24).getLsbD 23 = true := by decide

end Sys2Proof.Tests
end

section
/-! BASE does without the LATER-only state (R7, R23). The one key fact is a commutation: in BASE, writing other values into
the LATER-only fields and then executing is the same as executing and then writing them. It says that nothing reads those
fields; taken at the values already there, it says that nothing writes them. -/

namespace Sys2Proof.Machine

open Sys2Proof

/-- The state LATER alone has a use for: the read-back machine's (R29), the bit counter (R78) and the free draws of its
captures (log 5). -/
structure LaterFields where
  cnt : BitCount
  rbPhase : Phase
  rbCap : Capture
  siso : SisoWord
  sisoOut : Bool
  sisoFresh : Bool
  draws : Nat

/-- The LATER-only part of a state. -/
def State.laterFields (s : State) : LaterFields :=
  ⟨s.cnt, s.rbPhase, s.rbCap, s.siso, s.sisoOut, s.sisoFresh, s.draws⟩

/-- The state with other values in the LATER-only fields. -/
def State.withLater (x : LaterFields) (s : State) : State :=
  { s with
    cnt := x.cnt, rbPhase := x.rbPhase, rbCap := x.rbCap, siso := x.siso, sisoOut := x.sisoOut, sisoFresh := x.sisoFresh
    draws := x.draws }

/-- An outcome with a next state changed by `f`; stops stay as they are. -/
def onNext (f : State → State) : Host.Outcome State Fault Refusal → Host.Outcome State Fault Refusal
  | .next t => .next (f t)
  | .fault r => .fault r
  | .refused r => .refused r

/-! ### The fields -/

theorem withLater_laterFields_self (s : State) : s.withLater s.laterFields = s := rfl

@[simp] theorem laterFields_withLater (x : LaterFields) (s : State) : (s.withLater x).laterFields = x := rfl
@[simp] theorem withLater_profile (x : LaterFields) (s : State) : (s.withLater x).profile = s.profile := rfl
@[simp] theorem withLater_sr (x : LaterFields) (s : State) : (s.withLater x).sr = s.sr := rfl
@[simp] theorem withLater_fresh (x : LaterFields) (s : State) : (s.withLater x).fresh = s.fresh := rfl
@[simp] theorem withLater_inp (x : LaterFields) (s : State) : (s.withLater x).inp = s.inp := rfl
@[simp] theorem withLater_sampledWord (x : LaterFields) (s : State) : (s.withLater x).sampledWord = s.sampledWord := rfl

@[simp] theorem withLater_setSr (x : LaterFields) (s : State) (v : Word) :
    (s.withLater x).setSr v = (s.setSr v).withLater x := rfl
@[simp] theorem withLater_setSdo (x : LaterFields) (s : State) (b : Bool) :
    (s.withLater x).setSdo b = (s.setSdo b).withLater x := rfl
@[simp] theorem withLater_setFresh (x : LaterFields) (s : State) (b : Bool) :
    (s.withLater x).setFresh b = (s.setFresh b).withLater x := rfl
@[simp] theorem withLater_setPdi (x : LaterFields) (s : State) (v : Word) :
    (s.withLater x).setPdi v = (s.setPdi v).withLater x := rfl
@[simp] theorem withLater_setInp (x : LaterFields) (s : State) (v : Inputs) :
    (s.withLater x).setInp v = (s.setInp v).withLater x := rfl
@[simp] theorem withLater_setSck (x : LaterFields) (s : State) (b : Bool) :
    (s.withLater x).setSck b = (s.setSck b).withLater x := rfl
@[simp] theorem withLater_setSdi (x : LaterFields) (s : State) (b : Bool) :
    (s.withLater x).setSdi b = (s.setSdi b).withLater x := rfl
@[simp] theorem withLater_setCode (x : LaterFields) (s : State) (c : Code) :
    (s.withLater x).setCode c = (s.setCode c).withLater x := rfl

/-! ### The effects in BASE, without their read-back parts -/

theorem riseEffect_base {s : State} (hp : s.profile = .base) : riseEffect s = (sampleSr s s).setSck true := by
  obtain ⟨-, ⟨hprofile, -, -⟩, -⟩ := sampleSr_frame s s
  rw [riseEffect, sampleReadback_base hp]
  exact settlePhase_base (hprofile.trans hp)

theorem fallEffect_base {s : State} (hp : s.profile = .base) : fallEffect s = (presentSr s s).setSck false := by
  obtain ⟨-, ⟨hprofile, -, -⟩, -⟩ := presentSr_frame s s
  rw [fallEffect, presentSiso_phaseA (phaseB_base hp)]
  exact settlePhase_base (hprofile.trans hp)

theorem selEffect_base {s : State} (hp : s.profile = .base) {c : Code} (hc : c ≠ s.inp.code) :
    selEffect c s = (releaseSr s s).setCode c := by
  obtain ⟨-, ⟨hprofile, -, -⟩, -⟩ := releaseSr_frame s s
  rw [selEffect, if_neg hc, releaseReadback_base hp]
  exact settlePhase_base (hprofile.trans hp)

theorem selEffect_profile (c : Code) (s : State) : (selEffect c s).profile = s.profile := by
  obtain ⟨⟨hprofile, -, -⟩, -⟩ := selEffect_frame c s
  exact hprofile

/-! ### In BASE nothing reads the LATER-only fields -/

section
variable {s : State} (hp : s.profile = .base) (x : LaterFields)
include hp

theorem withLater_phaseB : (s.withLater x).phaseB = s.phaseB := by
  rw [phaseB_base hp, phaseB_base (s := s.withLater x) hp]

theorem withLater_phaseA : (s.withLater x).phaseA = s.phaseA := by
  rw [State.phaseA, withLater_phaseB hp, State.phaseA]

theorem withLater_selCfg : (s.withLater x).selCfg = s.selCfg := by
  rw [State.selCfg, withLater_phaseA hp, withLater_inp, State.selCfg]

theorem withLater_sel4 : (s.withLater x).sel4 = s.sel4 := by
  rw [State.sel4, withLater_phaseB hp, withLater_inp, State.sel4]

theorem withLater_selAtt : (s.withLater x).selAtt = s.selAtt := by
  rw [State.selAtt, withLater_phaseA hp, withLater_inp, State.selAtt]

theorem withLater_ddsCs (i : Channel) : (s.withLater x).ddsCs i = s.ddsCs i := by
  have hsel : (s.withLater x).selDds i = s.selDds i := by
    rw [State.selDds, withLater_phaseA hp]
    rfl
  rw [State.ddsCs, hsel]
  rfl

theorem withLater_rbSdo : (s.withLater x).rbSdo = s.rbSdo := by
  simp [State.rbSdo, hp, Profile.readback]

/-- The lines that depend on the phase or the read-back machine agree by the lemmas above; the others read neither. -/
theorem withLater_outputs : (s.withLater x).outputs = s.outputs := by
  have hcs : (s.withLater x).ddsCs = s.ddsCs := funext (withLater_ddsCs hp x)
  simp only [State.outputs, State.attSck, State.attLe, hcs, withLater_selAtt hp, withLater_rbSdo hp]
  rfl

theorem withLater_sampleSr : sampleSr (s.withLater x) (s.withLater x) = (sampleSr s s).withLater x := by
  have hsel := withLater_selCfg hp x
  cases h : s.selCfg with
  | false => rw [sampleSr_unselected h, sampleSr_unselected (hsel.trans h)]
  | true => simp [sampleSr_base h hp, sampleSr_base (hsel.trans h) hp]

theorem withLater_presentSr : presentSr (s.withLater x) (s.withLater x) = (presentSr s s).withLater x := by
  have hsel := withLater_selCfg hp x
  cases h : s.selCfg with
  | false => rw [presentSr_unselected h, presentSr_unselected (hsel.trans h)]
  | true => simp [presentSr_selected h, presentSr_selected (hsel.trans h)]

theorem withLater_releaseSr : releaseSr (s.withLater x) (s.withLater x) = (releaseSr s s).withLater x := by
  have hsel := withLater_selCfg hp x
  cases h : s.selCfg with
  | false => rw [releaseSr_unselected h, releaseSr_unselected (hsel.trans h)]
  | true =>
    rw [releaseSr_base h hp, releaseSr_base (hsel.trans h) hp]
    cases hf : s.fresh <;> simp [hf]

theorem withLater_riseEffect : riseEffect (s.withLater x) = (riseEffect s).withLater x := by
  rw [riseEffect_base hp, riseEffect_base (s := s.withLater x) hp, withLater_sampleSr hp, withLater_setSck]

theorem withLater_fallEffect : fallEffect (s.withLater x) = (fallEffect s).withLater x := by
  rw [fallEffect_base hp, fallEffect_base (s := s.withLater x) hp, withLater_presentSr hp, withLater_setSck]

theorem withLater_selEffect (c : Code) : selEffect c (s.withLater x) = (selEffect c s).withLater x := by
  by_cases hc : c = s.inp.code
  · rw [hc, selEffect_same]
    exact selEffect_same (s.withLater x)
  · rw [selEffect_base hp hc, selEffect_base (s := s.withLater x) hp hc, withLater_releaseSr hp, withLater_setCode]

theorem withLater_settlePhase : settlePhase (s.withLater x) = (settlePhase s).withLater x := by
  rw [settlePhase_base hp, settlePhase_base (s := s.withLater x) hp]

theorem withLater_enterSelector (w : SelectorWord) :
    enterSelector w (s.withLater x) = onNext (State.withLater x) (enterSelector w s) := by
  have hsel4 := withLater_sel4 ((selEffect_profile (w.extractLsb' 0 3) s).trans hp) x
  simp only [enterSelector, withLater_selEffect hp, hsel4]
  split <;> rfl

/-- The key fact: in BASE every instruction commutes with a change of the LATER-only fields. -/
theorem exec_withLater (i : Instr) : exec i (s.withLater x) = onNext (State.withLater x) (exec i s) := by
  cases i with
  | rise =>
    simp only [exec, execRise, withLater_inp, withLater_riseEffect hp]
    split <;> rfl
  | fall =>
    simp only [exec, execFall, withLater_inp, withLater_fallEffect hp]
    split <;> rfl
  | sel c => simp only [exec, execSel, withLater_selEffect hp, onNext]
  | sdi b =>
    have h := withLater_settlePhase (s := s.setSdi b) hp x
    simp only [exec, execSdi, withLater_setSdi, h, onNext]
  | env r =>
    have h := withLater_settlePhase (s := s.setInp (s.inp.withEnv r)) hp x
    simp only [exec, execEnv, withLater_inp, withLater_setInp, h]
    repeat' split
    all_goals rfl
  | idle p => simp only [exec, execIdle, withLater_selEffect hp, onNext]
  | _ => exact withLater_enterSelector hp x _

/-- In BASE no instruction writes the LATER-only fields: the commutation at the values they have. -/
theorem exec_base_keeps_laterFields {i : Instr} {t : State} (h : exec i s = .next t) :
    t.laterFields = s.laterFields := by
  have key := exec_withLater hp s.laterFields i
  rw [withLater_laterFields_self, h] at key
  have ht : t = t.withLater s.laterFields := by simpa [onNext] using key
  rw [ht, laterFields_withLater]

end

/-- Settles O49: what BASE keeps is `exec_base_keeps_laterFields`; what it does not read is `withLater_outputs` and
`exec_withLater`. -/
theorem baseLeavesReadbackState : Obligations.BaseLeavesReadbackState := by
  unfold Obligations.BaseLeavesReadbackState
  constructor
  · intro i s t hp h
    have hkeep := exec_base_keeps_laterFields hp h
    simp only [State.laterFields, LaterFields.mk.injEq] at hkeep
    obtain ⟨hcnt, hphase, hcap, hsiso, hout, hfresh, hdraws⟩ := hkeep
    exact ⟨⟨hphase, hcap, hsiso, hout, hfresh⟩, hcnt, hdraws⟩
  · intro n ph cap siso out fresh d other s hp
    have key := exec_withLater hp ⟨n, ph, cap, siso, out, fresh, d⟩
    refine ⟨withLater_outputs hp ⟨n, ph, cap, siso, out, fresh, d⟩, fun i t h => ?_, fun i r h => ?_⟩
    · exact (key i).trans (congrArg _ h)
    · exact (key i).trans (congrArg _ h)

end Sys2Proof.Machine
end

section
/-! No step changes a strap, the profile or the protocol revision (R20, R7, R122): each kind of effect that `exec` can have
keeps them, and `step` is `exec` with an item taken off the trace. -/

namespace Sys2Proof.Machine

open Sys2Proof

theorem exec_keeps_parameters {i : Instr} {s t : State} (h : exec i s = .next t) : s.SameParameters t := by
  obtain ⟨-, -, rfl⟩ | ⟨-, -, rfl⟩ | ⟨-, c, rfl⟩ | ⟨b, -, rfl⟩ | ⟨r, -, -, rfl⟩ := exec_next_cases h
  · exact (riseEffect_frame s).1
  · exact (fallEffect_frame s).1
  · exact (selEffect_frame c s).1
  · exact ⟨rfl, rfl, rfl⟩
  · exact ⟨rfl, rfl, rfl⟩

theorem exec_keeps_straps {i : Instr} {s t : State} (h : exec i s = .next t) : s.SameStraps t := by
  obtain ⟨-, -, rfl⟩ | ⟨-, -, rfl⟩ | ⟨-, c, rfl⟩ | ⟨b, -, rfl⟩ | ⟨r, -, -, rfl⟩ := exec_next_cases h
  · simp [State.SameStraps, riseEffect_inp]
  · simp [State.SameStraps, fallEffect_inp]
  · simp [State.SameStraps, selEffect_inp]
  · simp [State.SameStraps]
  · simp [State.SameStraps, Inputs.withEnv]

/-- Settles O44: with nothing pending the state stays; otherwise `exec` keeps straps and parameters. -/
theorem stepKeepsStrapsAndBuild : Obligations.StepKeepsStrapsAndBuild := by
  unfold Obligations.StepKeepsStrapsAndBuild
  intro s t h
  obtain ⟨-, rfl⟩ | ⟨it, rest, i, -, -, hexec⟩ := step_next_cases h
  · exact ⟨⟨rfl, rfl, rfl, rfl⟩, rfl, rfl, id⟩
  · obtain ⟨hprofile, hrev, -⟩ := exec_keeps_parameters hexec
    have hstraps : (s.setPending rest).SameStraps t := exec_keeps_straps hexec
    refine ⟨hstraps, hprofile, hrev, fun hbuild => ?_⟩
    rw [State.RevisionOfBuild, hprofile, hrev]
    exact hbuild

end Sys2Proof.Machine
end

section
/-! The configuration register's layout (R34, R35), the outputs its fields drive (R110 to R117), and BASE's reserved bits
(R36), which are in no field: the outputs, the STATUS word and the selects read the register through its fields alone. -/

namespace Sys2Proof.Machine

open Sys2Proof

/-! ### The outputs, from the fields -/

@[simp] theorem outputs_rfSw (s : State) : s.outputs.rfSw = s.cfg.rfSw ||| s.inp.sw := rfl
@[simp] theorem outputs_ledG (s : State) : s.outputs.ledG = s.cfg.rfSw ||| s.inp.sw := rfl
@[simp] theorem outputs_ledR (s : State) : s.outputs.ledR = s.cfg.led ||| s.synthFault := rfl
@[simp] theorem outputs_ddsProfile (s : State) : s.outputs.ddsProfile = s.cfg.profile := rfl
@[simp] theorem outputs_ddsIoUpdate (s : State) : s.outputs.ddsIoUpdate = s.cfg.ioUpdate := rfl
@[simp] theorem outputs_ddsRst (s : State) : s.outputs.ddsRst = s.cfg.rst := rfl
@[simp] theorem outputs_attRst (s : State) : s.outputs.attRst = s.cfg.rst := rfl
@[simp] theorem outputs_ddsIoRst (s : State) : s.outputs.ddsIoRst = s.cfg.ioRst := rfl
@[simp] theorem outputs_clkSel (s : State) : s.outputs.clkSel = s.cfg.clkSel := rfl
@[simp] theorem outputs_syncSel (s : State) : s.outputs.syncSel = s.cfg.syncSel := rfl
@[simp] theorem outputs_clkDiv (s : State) : s.outputs.clkDiv = s.clkDiv := rfl
@[simp] theorem outputs_rbSdo (s : State) : s.outputs.rbSdo = s.rbSdo := rfl

theorem clkDiv_base {s : State} (hp : s.profile = .base) : s.clkDiv = none := by
  simp [State.clkDiv, hp, Profile.readback]

theorem clkDiv_later {s : State} (hp : s.profile = .later) : s.clkDiv = some s.cfg.div := by
  simp [State.clkDiv, hp, Profile.readback]

theorem rbSdo_base {s : State} (hp : s.profile = .base) : s.rbSdo = none := by
  simp [State.rbSdo, hp, Profile.readback]

theorem rbSdo_later {s : State} (hp : s.profile = .later) : s.rbSdo = some s.sisoOut := by
  simp [State.rbSdo, hp, Profile.readback]

/-! ### The fields, from the register -/

theorem cfg_base {s : State} (hp : s.profile = .base) : s.cfg = decodeCfg .base s.pdi := by
  rw [State.cfg, hp]

theorem cfg_later {s : State} (hp : s.profile = .later) : s.cfg = decodeCfg .later s.pdi := by
  rw [State.cfg, hp]

/-- The RoutingMask stands at bits 14:11 in both layouts. -/
theorem mask_eq_pdi_bit (s : State) (i : Channel) : s.mask i = s.pdi.getLsbD (11 + i.val) := by
  have hfield : s.cfg.maskNu = s.pdi.extractLsb' 11 4 := by
    cases hp : s.profile with
    | base => rw [cfg_base hp, decodeCfg]
    | later => rw [cfg_later hp, decodeCfg]
  simp [State.mask, hfield]

/-- Settles O39: the outputs from the fields, the fields by R34's layout. -/
theorem baseConfigurationDrivesOutputs : Obligations.BaseConfigurationDrivesOutputs := by
  unfold Obligations.BaseConfigurationDrivesOutputs
  intro s hp
  simp [cfg_base hp, decodeCfg, clkDiv_base hp, rbSdo_base hp, mask_eq_pdi_bit, State.synthFault]

/-- Settles O40: the outputs from the fields, the fields by R35's layout. -/
theorem laterConfigurationDrivesOutputs : Obligations.LaterConfigurationDrivesOutputs := by
  unfold Obligations.LaterConfigurationDrivesOutputs
  intro s hp
  simp [cfg_later hp, decodeCfg, clkDiv_later hp, rbSdo_later hp, mask_eq_pdi_bit, State.synthFault]

/-! ### BASE's reserved bits -/

theorem getLsbD_congr_low {w n k : Nat} {v v' : BitVec w} (h : v.extractLsb' 0 n = v'.extractLsb' 0 n)
    (hk : k < n) : v.getLsbD k = v'.getLsbD k := by
  have hbit := congrArg (fun x => x.getLsbD k) h
  simpa [hk] using hbit

/-- A field within the low `n` bits is the same in two words that agree on those bits. -/
theorem extractLsb'_congr_low {w n lo len : Nat} {v v' : BitVec w} (h : v.extractLsb' 0 n = v'.extractLsb' 0 n)
    (hfit : lo + len ≤ n) : v.extractLsb' lo len = v'.extractLsb' lo len := by
  ext k hk
  rw [BitVec.getElem_extractLsb', BitVec.getElem_extractLsb']
  exact getLsbD_congr_low h (by omega)

/-- Every field of BASE lies in bits 19:0 (R34, R36). -/
theorem decodeCfg_base_congr {v v' : Word} (h : v.extractLsb' 0 20 = v'.extractLsb' 0 20) :
    decodeCfg .base v = decodeCfg .base v' := by
  have hfield : ∀ lo len, lo + len ≤ 20 → v.extractLsb' lo len = v'.extractLsb' lo len := fun _ _ =>
    extractLsb'_congr_low h
  have hbit : ∀ k, k < 20 → v.getLsbD k = v'.getLsbD k := fun _ => getLsbD_congr_low h
  simp [decodeCfg, -BitVec.getLsbD_eq_getElem, hfield, hbit]

section
variable {s : State} {v : Word} (hcfg : (s.setPdi v).cfg = s.cfg)
include hcfg

theorem setPdi_mask : (s.setPdi v).mask = s.mask := by
  funext i
  rw [State.mask, hcfg, State.mask]

theorem setPdi_shared : (s.setPdi v).shared = s.shared := by
  funext i
  rw [State.shared, setPdi_mask hcfg, State.setPdi_inp, State.shared]

theorem setPdi_selDds : (s.setPdi v).selDds = s.selDds := by
  funext i
  simp only [State.selDds, State.bcast, setPdi_mask hcfg, setPdi_shared hcfg]
  rfl

theorem setPdi_rfSw : (s.setPdi v).rfSw = s.rfSw := by
  rw [State.rfSw, hcfg, State.setPdi_inp, State.rfSw]

theorem setPdi_status : (s.setPdi v).status = s.status := by
  rw [State.status, setPdi_rfSw hcfg]
  rfl

theorem setPdi_outSdo : (s.setPdi v).outSdo = s.outSdo := by
  simp only [State.outSdo, State.lowestUnmasked, State.channelSdo, setPdi_mask hcfg, setPdi_shared hcfg]
  rfl

/-- The outputs read the configuration register through its fields alone. -/
theorem setPdi_outputs : (s.setPdi v).outputs = s.outputs := by
  have hcs : (s.setPdi v).ddsCs = s.ddsCs := by
    funext i
    simp only [State.ddsCs, setPdi_shared hcfg, setPdi_selDds hcfg, State.setPdi_inp]
  have hsck : (s.setPdi v).ddsSck = s.ddsSck := by
    funext i
    simp only [State.ddsSck, setPdi_shared hcfg, State.setPdi_inp]
  have hsdi : (s.setPdi v).ddsSdi = s.ddsSdi := by
    funext i
    simp only [State.ddsSdi, setPdi_shared hcfg, State.setPdi_inp]
  simp only [State.outputs, State.ledR, State.clkDiv, hcs, hsck, hsdi, hcfg, setPdi_outSdo hcfg, setPdi_rfSw hcfg]
  rfl

end

/-- Settles O41: the reserved bits are in no field, and everything named reads the fields. -/
theorem reservedBitsDriveNothing : Obligations.ReservedBitsDriveNothing := by
  unfold Obligations.ReservedBitsDriveNothing
  intro s v hp hlow
  have hcfg : (s.setPdi v).cfg = s.cfg := by
    rw [cfg_base hp, cfg_base (s := s.setPdi v) hp]
    exact decodeCfg_base_congr hlow
  exact ⟨setPdi_outputs hcfg, setPdi_status hcfg, congrFun (setPdi_selDds hcfg)⟩

end Sys2Proof.Machine
end

section
/-! The STATUS word's layout (R38, R119): its placed fields do not overlap, so the bits of one field hold it alone. -/

namespace Sys2Proof.Machine

open Sys2Proof

/-- A placed field is read back at its own bits. -/
theorem placed_extractLsb'_same {n m lo : Nat} (v : BitVec n) (hfit : lo + n ≤ m) :
    (placed m v lo).extractLsb' lo n = v := by
  ext k hk
  have hlt : lo + k < m := by omega
  rw [BitVec.getElem_extractLsb', placed_getLsbD]
  simp [hlt, hk]

/-- A placed field leaves the bits under it 0. -/
theorem placed_extractLsb'_below {n m lo lo' n' : Nat} (v : BitVec n) (hbelow : lo' + n' ≤ lo) :
    (placed m v lo).extractLsb' lo' n' = 0#n' := by
  ext k hk
  have hlt : ¬ lo ≤ lo' + k := by omega
  rw [BitVec.getElem_extractLsb', placed_getLsbD]
  simp [hlt]

/-- A placed field leaves the bits over it 0. -/
theorem placed_extractLsb'_above {n m lo lo' n' : Nat} (v : BitVec n) (habove : lo + n ≤ lo') :
    (placed m v lo).extractLsb' lo' n' = 0#n' := by
  ext k hk
  have hout : v.getLsbD (lo' + k - lo) = false := BitVec.getLsbD_of_ge v _ (by omega)
  rw [BitVec.getElem_extractLsb', placed_getLsbD]
  simp [hout]

/-- The STATUS word's multi-bit fields, each at its bits. -/
theorem status_fields (s : State) :
    s.status.extractLsb' 0 4 = s.rfSw ∧ s.status.extractLsb' 4 4 = s.inp.smpErr ∧
      s.status.extractLsb' 8 4 = s.inp.pllLock ∧ s.status.extractLsb' 12 4 = s.inp.ifcMode ∧
      s.status.extractLsb' 16 7 = s.protoRev := by
  simp [State.status, BitVec.extractLsb'_or, placed_extractLsb'_same, placed_extractLsb'_below,
    placed_extractLsb'_above]

/-- The echo of the straps stands at bits 15:12 of the STATUS word. -/
theorem status_strap_bit (s : State) {k : Nat} (hk : k < 4) : s.status.getLsbD (12 + k) = s.inp.ifcMode.getLsbD k := by
  obtain ⟨-, -, -, hstraps, -⟩ := status_fields s
  rw [← hstraps]
  simp [hk]

/-- Settles O42: the fields by `status_fields`, each strap as a bit of the echo, and bit 23 over the highest field. -/
theorem statusWordLayout : Obligations.StatusWordLayout := by
  unfold Obligations.StatusWordLayout
  intro s
  obtain ⟨hsw, herr, hlock, -, hrev⟩ := status_fields s
  have hstrap : ∀ k < 4, s.status.getLsbD (12 + k) = s.inp.ifcMode.getLsbD k := fun _ => status_strap_bit s
  refine ⟨hsw, herr, hlock, ?_, ?_, ?_, ?_, hrev, ?_⟩
  · exact (hstrap 0 (by decide)).trans (ifcMode_getLsbD _ 0)
  · exact (hstrap 1 (by decide)).trans (ifcMode_getLsbD _ 1)
  · exact (hstrap 2 (by decide)).trans (ifcMode_getLsbD _ 2)
  · exact (hstrap 3 (by decide)).trans (ifcMode_getLsbD _ 3)
  · simp [-BitVec.getLsbD_eq_getElem, status_getLsbD]

end Sys2Proof.Machine
end

section
/-! The encoding of bus items (R61 to R66): decoding undoes encoding, encoding undoes decoding, and a word outside R62's
table is refused (R65). The key fact for the way back is that the fields R62 reads a word by make up the whole word. -/

namespace Sys2Proof.Machine

open Sys2Proof

/-! ### Event words by their fields -/

/-- An event word is its kind and its payload. -/
theorem kind_append_payload (w : EventWord) : w.extractLsb' 5 3 ++ w.extractLsb' 0 5 = w :=
  (BitVec.extractLsb'_append_extractLsb'_eq_extractLsb' (x := w) (by rfl)).trans BitVec.extractLsb'_eq_self

/-- The word of an event without payload is its kind and five zeros (R62). -/
theorem eventWord_of_zero_payload {w : EventWord} {kind : BitVec 3} (hkind : w.extractLsb' 5 3 = kind)
    (hpayload : w.extractLsb' 0 5 = 0#5) : kind ++ 0#5 = w := by
  rw [← hkind, ← hpayload, kind_append_payload]

/-- A word `010_00ccc` is the encoder's word for its code (R62). -/
theorem selWord_of_fields {w : EventWord} (hkind : w.extractLsb' 5 3 = 0b010#3) (hzero : w.extractLsb' 3 2 = 0#2) :
    0x40#8 ||| (w.extractLsb' 0 3).setWidth 8 = w := by
  have hbuilt : ∀ c : Code, 0x40#8 ||| c.setWidth 8 = 0b010#3 ++ (0#2 ++ c) := by decide
  have hpayload : w.extractLsb' 3 2 ++ w.extractLsb' 0 3 = w.extractLsb' 0 5 :=
    BitVec.extractLsb'_append_extractLsb'_eq_extractLsb' (by rfl)
  rw [hbuilt, ← hzero, hpayload, ← hkind, kind_append_payload]

/-- A word `011_0000b` is the encoder's word for its level (R62). -/
theorem sdiWord_of_fields {w : EventWord} (hkind : w.extractLsb' 5 3 = 0b011#3) (hzero : w.extractLsb' 1 4 = 0#4) :
    0x60#8 ||| (BitVec.ofBool (w.getLsbD 0)).setWidth 8 = w := by
  have hbuilt : ∀ b : Bool, 0x60#8 ||| (BitVec.ofBool b).setWidth 8 = 0b011#3 ++ (0#4 ++ BitVec.ofBool b) := by decide
  have hlevel : BitVec.ofBool (w.getLsbD 0) = w.extractLsb' 0 1 := by
    rw [← BitVec.setWidth_one, BitVec.setWidth_eq_extractLsb' (by decide)]
  have hpayload : w.extractLsb' 1 4 ++ w.extractLsb' 0 1 = w.extractLsb' 0 5 :=
    BitVec.extractLsb'_append_extractLsb'_eq_extractLsb' (by rfl)
  rw [hbuilt, hlevel, ← hzero, hpayload, ← hkind, kind_append_payload]

/-! ### What an event word spells, and what its record adds -/

theorem decodeEventWord_sel (c : Code) (r : EnvRecord) :
    decodeEventWord (0x40#8 ||| c.setWidth 8) r = .instr (.sel c) := by
  have hfields : ∀ c : Code, (0x40#8 ||| c.setWidth 8).extractLsb' 5 3 = 0b010#3 ∧
      (0x40#8 ||| c.setWidth 8).extractLsb' 3 2 = 0#2 ∧ (0x40#8 ||| c.setWidth 8).extractLsb' 0 3 = c := by decide
  obtain ⟨hkind, hzero, hcode⟩ := hfields c
  simp [decodeEventWord, hkind, hzero, hcode]

theorem decodeEventWord_sdi (b : Bool) (r : EnvRecord) :
    decodeEventWord (0x60#8 ||| (BitVec.ofBool b).setWidth 8) r = .instr (.sdi b) := by
  cases b <;> rfl

theorem decodeEventWord_reservedKind {w : EventWord}
    (h : w.extractLsb' 5 3 = 0b101#3 ∨ w.extractLsb' 5 3 = 0b110#3 ∨ w.extractLsb' 5 3 = 0b111#3) (r : EnvRecord) :
    decodeEventWord w r = .invalid (.reservedKind w) := by
  obtain h | h | h := h <;> simp [decodeEventWord, h]

theorem decodeEventWord_strayPayload {w : EventWord}
    (h : (w.extractLsb' 5 3 = 0b000#3 ∧ w.extractLsb' 0 5 ≠ 0#5) ∨
      (w.extractLsb' 5 3 = 0b001#3 ∧ w.extractLsb' 0 5 ≠ 0#5) ∨
      (w.extractLsb' 5 3 = 0b010#3 ∧ w.extractLsb' 3 2 ≠ 0#2) ∨ (w.extractLsb' 5 3 = 0b011#3 ∧ w.extractLsb' 1 4 ≠ 0#4) ∨
      (w.extractLsb' 5 3 = 0b100#3 ∧ w.extractLsb' 0 5 ≠ 0#5)) (r : EnvRecord) :
    decodeEventWord w r = .invalid (.strayPayload w) := by
  obtain ⟨hk, hp⟩ | ⟨hk, hp⟩ | ⟨hk, hp⟩ | ⟨hk, hp⟩ | ⟨hk, hp⟩ := h <;> simp [decodeEventWord, hk, hp]

/-- A word that spells an instruction is the encoder's word for it; only an `ENV` takes the record (R62, R64). -/
theorem decodeEventWord_instr_cases {w : EventWord} {r : EnvRecord} {i : Instr} (h : decodeEventWord w r = .instr i) :
    (encode i = .event w EnvRecord.empty ∧ ∀ r', i ≠ .env r') ∨ (i = .env r ∧ encode i = .event w r) := by
  unfold decodeEventWord at h
  split at h
  · next hkind =>
    split at h <;> cases h
    next hpayload =>
      exact .inl ⟨congrArg (Item.event · _) (eventWord_of_zero_payload hkind hpayload), fun _ => by simp⟩
  split at h
  · next hkind =>
    split at h <;> cases h
    next hpayload =>
      exact .inl ⟨congrArg (Item.event · _) (eventWord_of_zero_payload hkind hpayload), fun _ => by simp⟩
  split at h
  · next hkind =>
    split at h <;> cases h
    next hzero => exact .inl ⟨congrArg (Item.event · _) (selWord_of_fields hkind hzero), fun _ => by simp⟩
  split at h
  · next hkind =>
    split at h <;> cases h
    next hzero => exact .inl ⟨congrArg (Item.event · _) (sdiWord_of_fields hkind hzero), fun _ => by simp⟩
  split at h
  · next hkind =>
    split at h <;> cases h
    next hpayload => exact .inr ⟨rfl, congrArg (Item.event · _) (eventWord_of_zero_payload hkind hpayload)⟩
  · cases h

/-- With the empty record an item is what its word spells. -/
theorem decodeEvent_empty {w : EventWord} {i : Instr} (h : decodeEventWord w EnvRecord.empty = .instr i) :
    decodeEvent w EnvRecord.empty = .instr i := by
  rw [decodeEvent, h]
  cases i <;> rfl

/-- A word that spells no event makes the item invalid, whatever its record. -/
theorem decodeEvent_invalid {w : EventWord} {r : EnvRecord} {e : DecodeError} (h : decodeEventWord w r = .invalid e) :
    decodeEvent w r = .invalid e := by
  rw [decodeEvent, h]

/-- An item that decodes to an instruction has a word that spells it, and no record but an `ENV`'s (R64, log 15). -/
theorem decodeEvent_instr {w : EventWord} {r : EnvRecord} {i : Instr} (h : decodeEvent w r = .instr i) :
    decodeEventWord w r = .instr i ∧ ((∀ r', i ≠ .env r') → r = EnvRecord.empty) := by
  unfold decodeEvent at h
  split at h
  · next r' hword =>
    cases h
    exact ⟨hword, fun hne => absurd rfl (hne r')⟩
  · next hword =>
    split at h
    · next hempty =>
      cases h
      exact ⟨hword, fun _ => hempty⟩
    · cases h
  · cases h

/-! ### Both ways -/

/-- The record of an `ENV` is carried along unread, so it need not be legal. -/
theorem decodeItem_encode (i : Instr) : decodeItem (encode i) = .instr i := by
  cases i with
  | sel c => exact decodeEvent_empty (decodeEventWord_sel c _)
  | sdi b => exact decodeEvent_empty (decodeEventWord_sdi b _)
  | idle p => cases p <;> rfl
  | _ => rfl

/-- Settles O8: `decodeItem_encode` at the well-formed instructions. -/
theorem decodeOfEncode : Obligations.DecodeOfEncode := by
  unfold Obligations.DecodeOfEncode
  exact fun i _ => decodeItem_encode i

theorem encode_of_decodeEvent {w : EventWord} {r : EnvRecord} {i : Instr} (h : decodeEvent w r = .instr i) :
    encode i = .event w r := by
  obtain ⟨hword, hrecord⟩ := decodeEvent_instr h
  obtain ⟨hencode, hne⟩ | ⟨-, hencode⟩ := decodeEventWord_instr_cases hword
  · rw [hencode, hrecord hne]
  · exact hencode

/-- Each of the sixteen selectors is the encoding of what it decodes to (R66). -/
theorem encode_decodeSelector (w : SelectorWord) : encode (decodeSelector w) = .selector w := by
  revert w
  decide

/-- Settles O9: by the format of the item. -/
theorem encodeOfDecode : Obligations.EncodeOfDecode := by
  unfold Obligations.EncodeOfDecode
  intro it i h
  cases it with
  | event w r => exact encode_of_decodeEvent h
  | selector w =>
    cases h
    exact encode_decodeSelector w

/-- Settles O7: each word is computed. -/
theorem wordsOfTheTablesDecode : Obligations.WordsOfTheTablesDecode := by
  unfold Obligations.WordsOfTheTablesDecode
  decide

/-! ### Words that spell no event -/

/-- A step that meets an item that spells no event is refused (R65, R152). -/
theorem step_invalid {s : State} {it : Item} {rest : List Item} {e : DecodeError} (hp : s.pending = it :: rest)
    (hd : decodeItem it = .invalid e) : step s = .refused (.notAnEvent e) := by
  simp [step, State.fetch, hp, hd]

/-- Settles O5: a reserved kind or a stray payload bit makes the word, hence the item, invalid. -/
theorem wordsThatSpellNoEventAreRefused : Obligations.WordsThatSpellNoEventAreRefused := by
  unfold Obligations.WordsThatSpellNoEventAreRefused
  intro s w r rest hp h
  have hword : ∃ e, decodeEventWord w r = .invalid e := by
    obtain h | h | h | h := h
    · exact ⟨_, decodeEventWord_reservedKind (.inl h) r⟩
    · exact ⟨_, decodeEventWord_reservedKind (.inr (.inl h)) r⟩
    · exact ⟨_, decodeEventWord_reservedKind (.inr (.inr h)) r⟩
    · exact ⟨_, decodeEventWord_strayPayload h r⟩
  obtain ⟨e, he⟩ := hword
  have hitem : decodeItem (.event w r) = .invalid e := decodeEvent_invalid he
  exact ⟨e, hitem, step_invalid hp hitem⟩

end Sys2Proof.Machine
end

section
/-! The inputs that are refused or change nothing: repeated edges and levels (R63), an `ENV` that names a line with events
of its own or a strap (R64, R152), and the read-back selectors in BASE (R67). -/

namespace Sys2Proof.Machine

open Sys2Proof

/-- Settles O18: the two refusals by the clock level; a `SEL` of the current code has no effect, and an `SDI` of the
current level leaves only the end of the step, at which the phase is already settled. -/
theorem repeatedEdgesAndLevels : Obligations.RepeatedEdgesAndLevels := by
  unfold Obligations.RepeatedEdgesAndLevels
  intro s
  refine ⟨fun h => ?_, fun h => ?_, ?_, fun h => ?_⟩
  · simp [exec, execRise, h]
  · simp [exec, execFall, h]
  · rw [exec, execSel, selEffect_same]
  · have hsame : s.setSdi s.inp.sdi = s := rfl
    rw [exec, execSdi, hsame, settlePhase_of_follows h]

theorem namesBusLine_iff (r : EnvRecord) : r.namesBusLine = true ↔ r.sck ≠ none ∨ r.sdi ≠ none ∨ r.code ≠ none := by
  simp [EnvRecord.namesBusLine, Option.isSome_iff_ne_none, or_assoc]

theorem namesStrap_iff (r : EnvRecord) :
    r.namesStrap = true ↔ r.en9910 ≠ none ∨ r.enNu ≠ none ∨ r.enEem1 ≠ none ∨ r.strapRsv ≠ none := by
  simp [EnvRecord.namesStrap, Option.isSome_iff_ne_none, or_assoc]

theorem execEnv_strap {r : EnvRecord} (h : r.namesStrap = true) (s : State) :
    execEnv r s = .refused .envNamesStrap := by
  rw [execEnv, if_pos h]

theorem execEnv_busLine {r : EnvRecord} (hs : ¬r.namesStrap = true) (hb : r.namesBusLine = true) (s : State) :
    execEnv r s = .refused .envNamesBusLine := by
  rw [execEnv, if_neg hs, if_pos hb]

/-- Settles O27: a record that names a strap is refused for it; any other forbidden input is
a bus line. -/
theorem envRefusesForbiddenInputs : Obligations.EnvRefusesForbiddenInputs := by
  unfold Obligations.EnvRefusesForbiddenInputs
  intro s r h
  by_cases hs : r.namesStrap = true
  · exact .inr (execEnv_strap hs s)
  · have hb : r.namesBusLine = true := by
      rw [namesStrap_iff] at hs
      rw [namesBusLine_iff]
      tauto
    exact .inl (execEnv_busLine hs hb s)

theorem sel4_base {s : State} (hp : s.profile = .base) : s.sel4 = 0#1 ++ s.inp.code := by
  rw [State.sel4, phaseB_base hp]
  rfl

/-- In BASE no `SEL` gives a selector with the phase bit set, so entering one is refused (R67, log 7). -/
theorem enterSelector_base_phaseB {s : State} (hp : s.profile = .base) {w : SelectorWord} (hw : w.msb = true) :
    enterSelector w s = .refused (.selectorNotEntered w) := by
  have hne : (selEffect (w.extractLsb' 0 3) s).sel4 ≠ w := by
    intro heq
    rw [← heq, sel4_base ((selEffect_profile _ s).trans hp), BitVec.msb_append] at hw
    simp at hw
  rw [enterSelector, if_neg hne]

/-- Settles O34: the seven selectors have the phase bit set. -/
theorem baseHasNoReadbackSelectors : Obligations.BaseHasNoReadbackSelectors := by
  unfold Obligations.BaseHasNoReadbackSelectors
  intro s hp
  have refused {w : SelectorWord} (hw : w.msb = true) := enterSelector_base_phaseB hp hw
  exact ⟨refused rfl, refused rfl, refused rfl, refused rfl, refused rfl, refused rfl, refused rfl, sel4_base hp⟩

end Sys2Proof.Machine
end

section
/-! The SR in one event: the whole next state of a clock edge and of a deassertion, while the SR is selected and while it is
not (R73 to R82, R125, R128). -/

namespace Sys2Proof.Machine

open Sys2Proof

/-! ### The phase and the select -/

theorem phaseA_iff (s : State) : s.phaseA = true ↔ s.profile = .base ∨ s.rbPhase = .a := by
  cases hp : s.profile with
  | base => simp [phaseA_base hp]
  | later => simp [phaseA_later hp]

theorem phaseFollowsEnable_of_phaseA {s : State} (h : s.phaseA = true) : s.PhaseFollowsEnable := by
  intro hp _
  simpa [phaseA_later hp] using h

theorem selCfg_base {s : State} (hp : s.profile = .base) (hc : s.inp.code = 1#3) : s.selCfg = true :=
  (selCfg_iff s).2 ⟨hc, phaseA_base hp⟩

theorem selCfg_of_rbPhase_a {s : State} (ha : s.rbPhase = .a) (hc : s.inp.code = 1#3) : s.selCfg = true :=
  (selCfg_iff s).2 ⟨hc, (phaseA_iff s).2 (.inr ha)⟩

theorem selCfg_of_code_ne {s : State} (hc : s.inp.code ≠ 1#3) : s.selCfg = false := by
  simp [State.selCfg, hc]

theorem phaseFollowsEnable_of_selCfg {s : State} (h : s.selCfg = true) : s.PhaseFollowsEnable :=
  phaseFollowsEnable_of_phaseA ((selCfg_iff s).1 h).2

theorem rbPhase_of_selCfg {s : State} (h : s.selCfg = true) (hp : s.profile = .later) : s.rbPhase = .a := by
  simpa [phaseA_later hp] using ((selCfg_iff s).1 h).2

/-! ### Events that answer a next state -/

theorem exec_sel_next (c : Code) (s : State) : exec (.sel c) s = .next (selEffect c s) := rfl

theorem exec_sdi_next (b : Bool) (s : State) : exec (.sdi b) s = .next (settlePhase (s.setSdi b)) := rfl

theorem exec_rise_next {s : State} (h : s.inp.sck = false) : exec .rise s = .next (riseEffect s) :=
  (execRise_next_iff s _).2 ⟨h, rfl⟩

theorem exec_fall_next {s : State} (h : s.inp.sck = true) : exec .fall s = .next (fallEffect s) :=
  (execFall_next_iff s _).2 ⟨h, rfl⟩

/-! ### RISE -/

/-- The word the next sample edge of the SR shifts up: the STATUS word at the first one of a selection, the SR's own
contents after it (R75). -/
def State.loaded (s : State) : Word := if s.fresh then s.status else s.sr

theorem sampledWord_eq (s : State) : s.sampledWord = shiftIn s.loaded s.inp.sdi := rfl

theorem riseEffect_cfg_base {s : State} (h : s.selCfg = true) (hp : s.profile = .base) :
    riseEffect s = ((s.setSr (shiftIn s.loaded s.inp.sdi)).setFresh false).setSck true := by
  rw [riseEffect_base hp, sampleSr_base h hp, sampledWord_eq]

/-- In LATER a selected SR is captured from while it samples, and the phase stays A. -/
theorem riseEffect_cfg_later {s : State} (h : s.selCfg = true) (hp : s.profile = .later) :
    riseEffect s = ((sampleSr s s).setRbCap (shiftIn s.rbCap s.sdo)).setSck true := by
  obtain ⟨hcode, hA⟩ := (selCfg_iff s).1 h
  obtain ⟨⟨hphase, -⟩, -⟩ := sampleSr_frame s s
  rw [riseEffect, sampleReadback_phaseA hp (by simp [hcode]) hA, captureSdo_known (outSdo_cfg hcode)]
  exact settlePhase_phaseA (hphase.trans (rbPhase_of_selCfg h hp))

theorem riseEffect_unselected_sameSr {s : State} (h : s.selCfg = false) : s.SameSr (riseEffect s) := by
  obtain ⟨hsame, -⟩ := sampleReadback_frame s s
  rw [riseEffect, sampleSr_unselected h]
  exact hsame

/-- At code 0 neither the SR nor the read-back machine samples (R82, R101). -/
theorem riseEffect_idle {s : State} (hs : s.PhaseFollowsEnable) (hc : s.inp.code = 0#3) :
    riseEffect s = s.setSck true := by
  rw [riseEffect, sampleSr_unselected (selCfg_of_code_ne (by simp [hc])), sampleReadback_idle hc]
  exact settlePhase_of_same hs rfl rfl rfl

/-! ### FALL -/

theorem presentSiso_idle {s0 : State} (hc : s0.inp.code = 0#3) (s : State) : presentSiso s0 s = s := by
  simp [presentSiso, hc]

theorem fallEffect_cfg {s : State} (h : s.selCfg = true) :
    fallEffect s = (s.setSdo (s.sr.getLsbD 23)).setSck false := by
  have hB : s.phaseB = false := by simp [phaseB_eq_not_phaseA, ((selCfg_iff s).1 h).2]
  rw [fallEffect, presentSr_selected h, presentSiso_phaseA hB]
  exact settlePhase_of_same (phaseFollowsEnable_of_selCfg h) rfl rfl rfl

theorem fallEffect_unselected_sameSr {s : State} (h : s.selCfg = false) : s.SameSr (fallEffect s) := by
  obtain ⟨hsame, -⟩ := presentSiso_frame s s
  rw [fallEffect, presentSr_unselected h]
  exact hsame

/-- With nothing selected that a FALL could present, it lowers the clock and changes nothing else. -/
theorem fallEffect_elsewhere {s : State} (hs : s.PhaseFollowsEnable) (hsel : s.selCfg = false)
    (hsiso : presentSiso s s = s) : fallEffect s = s.setSck false := by
  rw [fallEffect, presentSr_unselected hsel, hsiso]
  exact settlePhase_of_same hs rfl rfl rfl

/-! ### SEL -/

theorem selEffect_cfg_base {s : State} (h : s.selCfg = true) (hp : s.profile = .base) {c : Code} (hc : c ≠ s.inp.code) :
    selEffect c s = ((s.setPdi (if s.fresh then s.pdi else s.sr)).setFresh true).setCode c := by
  rw [selEffect_base hp hc, releaseSr_base h hp]
  cases s.fresh <;> rfl

/-- In LATER the phase at the end of the step is B exactly when the enable bit is set: the flip of R125, which R126 leaves. -/
theorem selEffect_cfg_later {s : State} (h : s.selCfg = true) (hp : s.profile = .later) {c : Code}
    (hc : c ≠ s.inp.code) :
    selEffect c s =
      (((s.setFresh true).setCnt 23#5).setRbPhase (if s.cfg.rbEn then .b else .a)).setCode c := by
  obtain ⟨hcode, hA⟩ := (selCfg_iff s).1 h
  have hcode0 : s.inp.code ≠ 0#3 := by simp [hcode]
  have hcfg : ((s.setFresh true).setCnt 23#5).cfg = s.cfg := rfl
  rw [selEffect, if_neg hc, releaseSr_later h hp, releaseReadback_later hp hcode0]
  simp only [phaseB_eq_not_phaseA, hA, phaseAfterDeassertion, hcfg, rbPhase_of_selCfg h hp, Bool.and_self]
  cases he : s.cfg.rbEn with
  | true => exact settlePhase_of_enabled he rfl rfl
  | false => exact settlePhase_phaseA rfl

/-- From code 0 a select change ends no selection: it writes the code (R148). -/
theorem selEffect_idle {s : State} (hs : s.PhaseFollowsEnable) (h0 : s.inp.code = 0#3) (c : Code) :
    selEffect c s = s.setCode c := by
  by_cases hc : c = s.inp.code
  · rw [hc, selEffect_same]
    rfl
  · rw [selEffect, if_neg hc, releaseSr_unselected (selCfg_of_code_ne (by simp [h0])), releaseReadback_idle h0]
    exact settlePhase_of_same hs rfl rfl rfl

/-! ### The statements about one event -/

/-- Settles O10. -/
theorem riseInBase : Obligations.RiseInBase := by
  unfold Obligations.RiseInBase
  intro s hp hsck
  rw [exec_rise_next hsck]
  by_cases hc : s.inp.code = 1#3
  · rw [if_pos hc, riseEffect_cfg_base (selCfg_base hp hc) hp, shiftIn_word]
    rfl
  · rw [if_neg hc, riseEffect_base hp, sampleSr_unselected (selCfg_of_code_ne hc)]
    rfl

/-- Settles O11, by whether the edge ends a frame. -/
theorem riseInLaterCfgTransaction : Obligations.RiseInLaterCfgTransaction := by
  unfold Obligations.RiseInLaterCfgTransaction
  intro s hp ha hc hsck v
  have hsel : s.selCfg = true := selCfg_of_rbPhase_a ha hc
  have hv : s.sampledWord = v := by rw [sampledWord_eq, shiftIn_word]; rfl
  rw [exec_rise_next hsck, riseEffect_cfg_later hsel hp, shiftIn_capture]
  by_cases hcnt : s.cnt = 0#5
  · rw [if_pos hcnt, sampleSr_later_frameEnd hsel hp hcnt, hv]
    rfl
  · rw [if_neg hcnt, sampleSr_later_midFrame hsel hp hcnt, hv]
    rfl

/-- Settles O14. -/
theorem fallInCfgTransaction : Obligations.FallInCfgTransaction := by
  unfold Obligations.FallInCfgTransaction
  refine ⟨fun s hsel _ hsck => ?_, fun s hsel hsck => ⟨_, exec_fall_next hsck, ?_⟩⟩
  · rw [exec_fall_next hsck, fallEffect_cfg hsel]
    rfl
  · obtain ⟨-, hsdo, -⟩ := fallEffect_unselected_sameSr hsel
    exact hsdo

/-- Settles O16: at code 0 the SISO presents nothing for the code, at a device's code in phase A for the phase. -/
theorem clockEdgesElsewhere : Obligations.ClockEdgesElsewhere := by
  unfold Obligations.ClockEdgesElsewhere
  intro s hs
  refine ⟨fun hc hsck => ?_, ?_⟩
  · rw [exec_rise_next hsck, riseEffect_idle hs hc]
    rfl
  · rintro (hc | ⟨hc, hA⟩) hsck
    · rw [exec_fall_next hsck, fallEffect_elsewhere hs (selCfg_of_code_ne (by simp [hc])) (presentSiso_idle hc s)]
      rfl
    · have hB : s.phaseB = false := by simp [phaseB_eq_not_phaseA, hA]
      rw [exec_fall_next hsck, fallEffect_elsewhere hs (selCfg_of_code_ne hc) (presentSiso_phaseA hB s)]
      rfl

/-- Settles O17. -/
theorem clockEdgesLeaveUnselectedSr : Obligations.ClockEdgesLeaveUnselectedSr := by
  unfold Obligations.ClockEdgesLeaveUnselectedSr
  exact fun s h =>
    ⟨fun hsck => ⟨_, exec_rise_next hsck, riseEffect_unselected_sameSr h⟩,
      fun hsck => ⟨_, exec_fall_next hsck, fallEffect_unselected_sameSr h⟩⟩

/-- Settles O19. -/
theorem selEndsBaseCfgTransaction : Obligations.SelEndsBaseCfgTransaction := by
  unfold Obligations.SelEndsBaseCfgTransaction
  intro s c hp hcode hc
  rw [exec_sel_next, selEffect_cfg_base (selCfg_base hp hcode) hp (hcode ▸ hc)]
  rfl

/-- Settles O20. -/
theorem selEndsLaterCfgTransaction : Obligations.SelEndsLaterCfgTransaction := by
  unfold Obligations.SelEndsLaterCfgTransaction
  intro s c hp ha hcode hc
  rw [exec_sel_next, selEffect_cfg_later (selCfg_of_rbPhase_a ha hcode) hp (hcode ▸ hc)]
  rfl

end Sys2Proof.Machine
end

section
/-! Transactions as runs of bits (R72): for every state, code and length, a transaction is a `SEL`, the bits one after the
other, and `SEL 0`; and a line that SDI does not reach is sampled at each bit as the bits before it left it. -/

namespace Sys2Proof.Machine

open Sys2Proof

/-- The state after `CLK b` with the clock low (R72). -/
def sendBit (s : State) (b : Bool) : State := fallEffect (riseEffect (settlePhase (s.setSdi b)))

/-- The state after the clock pairs that send the bits. -/
def sendBits (s : State) (bits : List Bool) : State := bits.foldl sendBit s

@[simp] theorem sendBits_nil (s : State) : sendBits s [] = s := rfl

@[simp] theorem sendBits_cons (s : State) (b : Bool) (bs : List Bool) :
    sendBits s (b :: bs) = sendBits (sendBit s b) bs := rfl

theorem sendBits_append (s : State) (xs ys : List Bool) : sendBits s (xs ++ ys) = sendBits (sendBits s xs) ys :=
  List.foldl_append

theorem sendBit_inp (s : State) (b : Bool) : (sendBit s b).inp = { s.inp with sck := false, sdi := b } := by
  rw [sendBit, fallEffect_inp, riseEffect_inp]
  rfl

theorem sendBit_parameters (s : State) (b : Bool) : s.SameParameters (sendBit s b) := by
  obtain ⟨⟨hfp, hfr, hfq⟩, -⟩ := fallEffect_frame (riseEffect (settlePhase (s.setSdi b)))
  obtain ⟨⟨hrp, hrr, hrq⟩, -⟩ := riseEffect_frame (settlePhase (s.setSdi b))
  exact ⟨hfp.trans hrp, hfr.trans hrr, hfq.trans hrq⟩

theorem sendBits_code (s : State) (bits : List Bool) : (sendBits s bits).inp.code = s.inp.code := by
  induction bits generalizing s with
  | nil => rfl
  | cons b bs ih => rw [sendBits_cons, ih, sendBit_inp]

theorem sendBits_sck {s : State} (h : s.inp.sck = false) (bits : List Bool) : (sendBits s bits).inp.sck = false := by
  induction bits generalizing s with
  | nil => exact h
  | cons b bs ih => exact ih (by rw [sendBit_inp])

theorem sendBits_parameters (s : State) (bits : List Bool) : s.SameParameters (sendBits s bits) := by
  induction bits generalizing s with
  | nil => exact ⟨rfl, rfl, rfl⟩
  | cons b bs ih =>
    obtain ⟨hp, hr, hq⟩ := sendBit_parameters s b
    obtain ⟨hp', hr', hq'⟩ := ih (sendBit s b)
    exact ⟨hp'.trans hp, hr'.trans hr, hq'.trans hq⟩

theorem sendBit_profile (s : State) (b : Bool) : (sendBit s b).profile = s.profile := by
  obtain ⟨hprofile, -⟩ := sendBit_parameters s b
  exact hprofile

theorem sendBits_profile (s : State) (bits : List Bool) : (sendBits s bits).profile = s.profile := by
  obtain ⟨hprofile, -⟩ := sendBits_parameters s bits
  exact hprofile

/-- Sending bits can change the STATUS word through the configuration alone: the bus lines are not in it (R38). -/
theorem sendBits_status (s : State) (bits : List Bool) :
    (sendBits s bits).status = (s.setPdi (sendBits s bits).pdi).status := by
  induction bits generalizing s with
  | nil => rfl
  | cons b bs ih =>
    obtain ⟨hp, hr, -⟩ := sendBit_parameters s b
    rw [sendBits_cons, ih]
    simp [State.status, State.rfSw, State.cfg, Inputs.ifcMode, sendBit_inp, hp, hr]

/-- The two edges of `CLK b` are legal with the clock low at its start. -/
theorem exec_clk_edges {s : State} (h : s.inp.sck = false) (b : Bool) :
    exec .rise (settlePhase (s.setSdi b)) = .next (riseEffect (settlePhase (s.setSdi b))) ∧
      exec .fall (riseEffect (settlePhase (s.setSdi b))) = .next (sendBit s b) :=
  ⟨exec_rise_next h, exec_fall_next (by rw [riseEffect_inp])⟩

theorem runEvents_clkEvents {s : State} (h : s.inp.sck = false) (b : Bool) :
    runEvents (clkEvents b) s = .next (sendBit s b) := by
  obtain ⟨hrise, hfall⟩ := exec_clk_edges h b
  rw [clkEvents, runEvents_cons_next (exec_sdi_next b s), runEvents_cons_next hrise, runEvents_cons_next hfall,
    runEvents_nil]

theorem runEvents_clkAll {s : State} (h : s.inp.sck = false) (bits : List Bool) :
    runEvents (clkAll bits) s = .next (sendBits s bits) := by
  induction bits generalizing s with
  | nil => rfl
  | cons b bs ih =>
    rw [clkAll, runEvents_append_next (runEvents_clkEvents h b), sendBits_cons, ih (by rw [sendBit_inp])]

/-- The whole effect of a transaction of any code and length, from a state with the clock low. -/
theorem runEvents_xfer {s : State} (h : s.inp.sck = false) (c : Code) (bits : List Bool) :
    runEvents (xferEvents c bits) s = .next (selEffect 0#3 (sendBits (selEffect c s) bits)) := by
  have hlow : (selEffect c s).inp.sck = false := by rw [selEffect_inp]; exact h
  rw [xferEvents, runEvents_cons_next (exec_sel_next c s), runEvents_append_next (runEvents_clkAll hlow bits),
    runEvents_cons_next (exec_sel_next 0#3 _), runEvents_nil]

/-- A transaction ends with nothing selected and the clock low. -/
theorem xfer_quiescent {s : State} (h : s.inp.sck = false) (c : Code) (bits : List Bool) :
    (selEffect 0#3 (sendBits (selEffect c s) bits)).Quiescent := by
  have hlow : (selEffect c s).inp.sck = false := by rw [selEffect_inp]; exact h
  rw [State.Quiescent, selEffect_inp]
  exact ⟨rfl, sendBits_sck hlow bits⟩

section
variable {α : Type} {f : State → α} (hf : ∀ (s : State) (b : Bool), f (settlePhase (s.setSdi b)) = f s)
include hf

theorem sampledAtRise_clkAll {s : State} (h : s.inp.sck = false) (bits : List Bool) :
    sampledAtRise f (clkAll bits) s = (List.range bits.length).map fun k => f (sendBits s (bits.take k)) := by
  induction bits generalizing s with
  | nil => rfl
  | cons b bs ih =>
    obtain ⟨hrise, hfall⟩ := exec_clk_edges h b
    have hbit : sampledAtRise f (clkEvents b) s = [f s] := by
      rw [clkEvents, sampledAtRise_other f (by simp) (exec_sdi_next b s), sampledAtRise_rise f hrise,
        sampledAtRise_other f (by simp) hfall, sampledAtRise_nil, hf]
    have hrest := ih (s := sendBit s b) (by rw [sendBit_inp])
    rw [clkAll, sampledAtRise_append f (runEvents_clkEvents h b), hbit, hrest, List.length_cons,
      List.range_succ_eq_map, List.map_cons, List.map_map]
    rfl

/-- What a master samples in a transaction, on a line that neither SDI nor the end of its step changes. -/
theorem sampledAtRise_xfer {s : State} (h : s.inp.sck = false) (c : Code) (bits : List Bool) :
    sampledAtRise f (xferEvents c bits) s =
      (List.range bits.length).map fun k => f (sendBits (selEffect c s) (bits.take k)) := by
  have hlow : (selEffect c s).inp.sck = false := by rw [selEffect_inp]; exact h
  rw [xferEvents, sampledAtRise_other f (by simp) (exec_sel_next c s), sampledAtRise_append f (runEvents_clkAll hlow bits),
    sampledAtRise_other f (by simp) (exec_sel_next 0#3 _), sampledAtRise_nil, List.append_nil, sampledAtRise_clkAll hf hlow]

end

/-- The read word of a transaction: at each bit the serial-out line as the bits before it left it (R72, R98). -/
theorem readWord_xfer {s : State} (h : s.inp.sck = false) (c : Code) (bits : List Bool) :
    readWord (xferEvents c bits) s =
      (List.range bits.length).map fun k => (sendBits (selEffect c s) (bits.take k)).outSdo :=
  sampledAtRise_xfer (fun _ _ => rfl) h c bits

/-! ### Serial words -/

/-- Bits shifted into a word stand at its low end, the last one lowest, below what was there (R69, R157). -/
theorem getLsbD_foldl_shiftIn {n : Nat} (v : BitVec n) (bits : List Bool) {k : Nat} (hk : k < n) :
    (bits.foldl shiftIn v).getLsbD k =
      if k < bits.length then bits.reverse.getD k false else v.getLsbD (k - bits.length) := by
  induction bits using List.reverseRecOn generalizing k with
  | nil => simp
  | append_singleton bs b ih =>
    rw [List.foldl_append, List.foldl_cons, List.foldl_nil, shiftIn, BitVec.getLsbD_shiftConcat]
    cases k with
    | zero => simp [hk]
    | succ j => simp [hk, ih (k := j) (by omega)]

/-- The first `k` bits, last one first. -/
theorem getD_reverse_take {bits : List Bool} {j k : Nat} (hk : k ≤ bits.length) (hj : j < k) :
    (bits.take k).reverse.getD j false = bits.getD (k - 1 - j) false := by
  have hlen : (bits.take k).length = k := List.length_take_of_le hk
  rw [List.getD_reverse j (by omega), hlen, List.getD_eq_getElem?_getD, List.getElem?_take_of_lt (by omega),
    ← List.getD_eq_getElem?_getD]

/-- A whole word shifted in leaves nothing of what was there (R69). -/
theorem foldl_shiftIn_eq_wordOfBits {bits : List Bool} (h : bits.length = 24) (v : Word) :
    bits.foldl shiftIn v = wordOfBits bits := by
  apply BitVec.eq_of_getLsbD_eq
  intro k hk
  rw [wordOfBits, getLsbD_foldl_shiftIn v bits hk, getLsbD_foldl_shiftIn _ bits hk]
  simp [h, hk]

end Sys2Proof.Machine
end

section
/-! The SR under a run of bits: what a bit leaves in a selected SR, and from it the word a BASE transaction to code 1 latches
and the word its master reads (R84, R85). -/

namespace Sys2Proof.Machine

open Sys2Proof

theorem selCfg_congr {s t : State} (hcode : t.inp.code = s.inp.code) (hp : t.profile = s.profile)
    (ha : t.rbPhase = s.rbPhase) : t.selCfg = s.selCfg := by
  simp [State.selCfg, State.phaseA, State.phaseB, hcode, hp, ha]

/-- After a sample edge of a selection its first one is over (R75). -/
theorem sampleSr_fresh {s0 : State} (h : s0.selCfg = true) (s : State) : (sampleSr s0 s).fresh = false := by
  cases hp : s0.profile with
  | base => rw [sampleSr_base h hp, State.setFresh_fresh]
  | later =>
    by_cases hc : s0.cnt = 0#5
    · rw [sampleSr_later_frameEnd h hp hc, State.setFresh_fresh]
    · rw [sampleSr_later_midFrame h hp hc, State.setFresh_fresh]

/-- While the SR is selected the read-back machine writes nothing of it at a RISE, nor the phase. -/
theorem riseEffect_cfg_sameSr {s : State} (h : s.selCfg = true) :
    (sampleSr s s).SameSr (riseEffect s) ∧ (riseEffect s).rbPhase = s.rbPhase := by
  cases hp : s.profile with
  | base =>
    rw [riseEffect_cfg_base h hp, sampleSr_base h hp]
    exact ⟨⟨rfl, rfl, rfl, rfl, rfl⟩, rfl⟩
  | later =>
    obtain ⟨⟨hphase, -⟩, -⟩ := sampleSr_frame s s
    rw [riseEffect_cfg_later h hp]
    exact ⟨⟨rfl, rfl, rfl, rfl, rfl⟩, hphase⟩

theorem riseEffect_selCfg {s : State} (h : s.selCfg = true) : (riseEffect s).selCfg = true := by
  obtain ⟨-, hphase⟩ := riseEffect_cfg_sameSr h
  obtain ⟨⟨hp, -⟩, -⟩ := riseEffect_frame s
  rw [selCfg_congr (by rw [riseEffect_inp]) hp hphase, h]

/-! ### One bit -/

section
variable {s : State} (h : s.selCfg = true) (b : Bool)
include h

/-- A bit sent to a selected SR: its sample edge, then its bit 23 on the serial-out register (R79). -/
theorem sendBit_cfg :
    sendBit s b = ((riseEffect (s.setSdi b)).setSdo ((riseEffect (s.setSdi b)).sr.getLsbD 23)).setSck false := by
  have hsdi : (s.setSdi b).selCfg = true := h
  rw [sendBit, settlePhase_of_follows (phaseFollowsEnable_of_selCfg hsdi), fallEffect_cfg (riseEffect_selCfg hsdi)]

theorem sendBit_selCfg : (sendBit s b).selCfg = true := by
  rw [sendBit_cfg h]
  exact riseEffect_selCfg (s := s.setSdi b) h

theorem sendBit_fresh : (sendBit s b).fresh = false := by
  have hsdi : (s.setSdi b).selCfg = true := h
  obtain ⟨⟨-, -, hfresh, -⟩, -⟩ := riseEffect_cfg_sameSr hsdi
  rw [sendBit_cfg h]
  exact hfresh.trans (sampleSr_fresh hsdi _)

theorem sendBit_loaded : (sendBit s b).loaded = (sendBit s b).sr := by
  simp [State.loaded, sendBit_fresh h]

theorem sendBit_sdo : (sendBit s b).sdo = (sendBit s b).loaded.getLsbD 23 := by
  rw [sendBit_loaded h, sendBit_cfg h]
  rfl

/-- The SR's words and its counter after a bit are those its sample edge gives. -/
theorem sendBit_sampled :
    (sendBit s b).loaded = (sampleSr (s.setSdi b) (s.setSdi b)).sr ∧
      (sendBit s b).cnt = (sampleSr (s.setSdi b) (s.setSdi b)).cnt ∧
      (sendBit s b).pdi = (sampleSr (s.setSdi b) (s.setSdi b)).pdi := by
  have hsdi : (s.setSdi b).selCfg = true := h
  obtain ⟨⟨hsr, -, -, hcnt, hpdi⟩, -⟩ := riseEffect_cfg_sameSr hsdi
  rw [sendBit_loaded h, sendBit_cfg h]
  exact ⟨hsr, hcnt, hpdi⟩

theorem sendBit_base (hp : s.profile = .base) :
    (sendBit s b).loaded = shiftIn s.loaded b ∧ (sendBit s b).pdi = s.pdi := by
  have hsdi : (s.setSdi b).selCfg = true := h
  obtain ⟨hloaded, -, hpdi⟩ := sendBit_sampled h b
  rw [hloaded, hpdi, sampleSr_base hsdi hp]
  exact ⟨rfl, rfl⟩

theorem sendBit_later_midFrame (hp : s.profile = .later) (hc : s.cnt ≠ 0#5) :
    (sendBit s b).loaded = shiftIn s.loaded b ∧ (sendBit s b).cnt = s.cnt - 1#5 ∧ (sendBit s b).pdi = s.pdi := by
  have hsdi : (s.setSdi b).selCfg = true := h
  obtain ⟨hloaded, hcnt, hpdi⟩ := sendBit_sampled h b
  rw [hloaded, hcnt, hpdi, sampleSr_later_midFrame hsdi hp hc]
  exact ⟨rfl, rfl, rfl⟩

theorem sendBit_later_frameEnd (hp : s.profile = .later) (hc : s.cnt = 0#5) :
    (sendBit s b).loaded = s.status ∧ (sendBit s b).cnt = 23#5 ∧ (sendBit s b).pdi = shiftIn s.loaded b := by
  have hsdi : (s.setSdi b).selCfg = true := h
  obtain ⟨hloaded, hcnt, hpdi⟩ := sendBit_sampled h b
  rw [hloaded, hcnt, hpdi, sampleSr_later_frameEnd hsdi hp hc]
  exact ⟨rfl, rfl, rfl⟩

end

/-! ### Any number of bits -/

section
variable {s : State} (h : s.selCfg = true)
include h

theorem sendBits_selCfg (bits : List Bool) : (sendBits s bits).selCfg = true := by
  induction bits generalizing s with
  | nil => exact h
  | cons b bs ih => exact ih (sendBit_selCfg h b)

/-- After at least one bit the word to shift is the SR's own, and its bit 23 is on the serial-out register. -/
theorem sendBits_ne_nil {bits : List Bool} (hne : bits ≠ []) :
    (sendBits s bits).fresh = false ∧ (sendBits s bits).sdo = (sendBits s bits).loaded.getLsbD 23 := by
  obtain ⟨init, last, rfl⟩ := List.eq_nil_or_concat bits |>.resolve_left hne
  have hsel := sendBits_selCfg h init
  rw [List.concat_eq_append, sendBits_append]
  exact ⟨sendBit_fresh hsel last, sendBit_sdo hsel last⟩

theorem sendBits_base (hp : s.profile = .base) (bits : List Bool) :
    (sendBits s bits).loaded = bits.foldl shiftIn s.loaded ∧ (sendBits s bits).pdi = s.pdi := by
  induction bits generalizing s with
  | nil => exact ⟨rfl, rfl⟩
  | cons b bs ih =>
    obtain ⟨hloaded, hpdi⟩ := sendBit_base h b hp
    obtain ⟨hloaded', hpdi'⟩ := ih (sendBit_selCfg h b) ((sendBit_profile s b).trans hp)
    exact ⟨by rw [sendBits_cons, hloaded', hloaded, List.foldl_cons], hpdi'.trans hpdi⟩

end

/-! ### BASE transactions to code 1 -/

/-- The `SEL 1` that starts a phase-A transaction writes the code alone, and the first sample edge loads the STATUS word of
the start (R75, R148). -/
theorem selEffect_startCfg {s : State} (hA : s.phaseA = true) (hq : s.Quiescent) (hf : s.fresh = true) :
    selEffect 1#3 s = s.setCode 1#3 ∧ (s.setCode 1#3).selCfg = true ∧ (s.setCode 1#3).loaded = s.status := by
  obtain ⟨hcode, -⟩ := hq
  have hfresh : (s.setCode 1#3).fresh = true := hf
  refine ⟨selEffect_idle (phaseFollowsEnable_of_phaseA hA) hcode 1#3, (selCfg_iff _).2 ⟨rfl, hA⟩, ?_⟩
  rw [State.loaded, hfresh]
  rfl

/-- The read word of a phase-A transaction to code 1 is what each bit before left in the serial-out register (R72, R98). -/
theorem readWord_cfg {s : State} (hA : s.phaseA = true) (hq : s.Quiescent) (hf : s.fresh = true) (bits : List Bool) :
    readWord (xferEvents 1#3 bits) s =
      (List.range bits.length).map fun k => .known (sendBits (s.setCode 1#3) (bits.take k)).sdo := by
  obtain ⟨hstart, -⟩ := selEffect_startCfg hA hq hf
  rw [readWord_xfer hq.2, hstart]
  exact List.map_congr_left fun k _ => outSdo_cfg (sendBits_code _ _)

/-- Settles O50: the deassertion copies the SR, which holds the bits shifted into the STATUS word of the start. -/
theorem baseTransactionLatch : Obligations.BaseTransactionLatch := by
  unfold Obligations.BaseTransactionLatch
  intro s bits hp hq hf
  obtain ⟨hstart, hsel, hloaded⟩ := selEffect_startCfg (phaseA_base hp) hq hf
  have hpu : (sendBits (s.setCode 1#3) bits).profile = .base := (sendBits_profile _ bits).trans hp
  have hcode : 0#3 ≠ (sendBits (s.setCode 1#3) bits).inp.code := by rw [sendBits_code]; simp
  obtain ⟨hword, -⟩ := sendBits_base hsel hp bits
  have hend := selEffect_cfg_base (sendBits_selCfg hsel bits) hpu hcode
  refine ⟨_, runEvents_xfer hq.2 1#3 bits, xfer_quiescent hq.2 1#3 bits, ?_, ?_, ?_⟩
  · rw [hstart, hend]
    rfl
  · rintro rfl
    rw [hstart, hend]
    simp [hf]
  · intro hne k hk
    obtain ⟨hfresh, -⟩ := sendBits_ne_nil hsel hne
    have hsr : (sendBits (s.setCode 1#3) bits).sr = bits.foldl shiftIn s.status := by
      rw [← hloaded, ← hword, State.loaded, hfresh]
      rfl
    rw [hstart, hend]
    simp [hfresh, hsr, getLsbD_foldl_shiftIn _ bits hk]

/-- Settles O51. -/
theorem baseReadWord : Obligations.BaseReadWord := by
  unfold Obligations.BaseReadWord
  intro s bits hp hq hf
  obtain ⟨-, hsel, hloaded⟩ := selEffect_startCfg (phaseA_base hp) hq hf
  rw [readWord_cfg (phaseA_base hp) hq hf]
  refine List.map_congr_left fun k hk => congrArg Level.known ?_
  have hk : k < bits.length := List.mem_range.1 hk
  have hlen : (bits.take k).length = k := List.length_take_of_le hk.le
  by_cases h0 : k = 0
  · subst h0
    rfl
  · have hne : bits.take k ≠ [] := List.ne_nil_of_length_pos (by omega)
    obtain ⟨-, hsdo⟩ := sendBits_ne_nil hsel hne
    obtain ⟨hword, -⟩ := sendBits_base hsel hp (bits.take k)
    rw [hsdo, hword, hloaded, getLsbD_foldl_shiftIn _ _ (by omega), hlen, if_neg h0]
    by_cases h24 : k < 24
    · rw [if_neg (by omega), if_pos h24]
    · rw [if_pos (by omega), if_neg h24, getD_reverse_take hk.le (by omega), Nat.sub_sub]

end Sys2Proof.Machine
end

section
/-! LATER transactions to code 1, frame by frame (R78, R84, R86): each complete frame of 24 bits latches its own word and
reloads the SR from STATUS; within a frame the SR shifts. Both hold however many bits are sent. -/

namespace Sys2Proof.Machine

open Sys2Proof

/-- The configuration register after the first `m` frames of a transaction: the start's, then the last frame's word. -/
def frameConfig (s : State) (bits : List Bool) (m : Nat) : Word := if m = 0 then s.pdi else frameWord bits (m - 1)

/-- The STATUS word frame `m` shifts out: read at the start for frame 0, else at the last edge of the frame before, under
the configuration before that edge's own latch (R78, R121). -/
def frameStatus (s : State) (bits : List Bool) (m : Nat) : Word := (s.setPdi (frameConfig s bits (m - 1))).status

section
variable {s : State} (h : s.selCfg = true) (hp : s.profile = .later)
include h hp

/-- Within a frame the bits enter the SR, the counter goes down and nothing latches. -/
theorem sendBits_withinFrame {bits : List Bool} (hlen : bits.length ≤ s.cnt.toNat) :
    (sendBits s bits).loaded = bits.foldl shiftIn s.loaded ∧
      (sendBits s bits).cnt.toNat = s.cnt.toNat - bits.length ∧ (sendBits s bits).pdi = s.pdi := by
  induction bits generalizing s with
  | nil => exact ⟨rfl, rfl, rfl⟩
  | cons b bs ih =>
    rw [List.length_cons] at hlen
    have hc : s.cnt ≠ 0#5 := by rintro hc; simp [hc] at hlen
    obtain ⟨hloaded, hcnt, hpdi⟩ := sendBit_later_midFrame h b hp hc
    have hcnt : (sendBit s b).cnt.toNat = s.cnt.toNat - 1 := by rw [hcnt]; bv_omega
    obtain ⟨hloaded', hcnt', hpdi'⟩ := ih (sendBit_selCfg h b) ((sendBit_profile s b).trans hp) (by omega)
    refine ⟨by rw [sendBits_cons, hloaded', hloaded, List.foldl_cons], ?_, hpdi'.trans hpdi⟩
    rw [sendBits_cons, hcnt', hcnt, List.length_cons]
    omega

/-- A complete frame latches its word, and the next one starts from the STATUS word before the latch. -/
theorem sendBits_frame {bits : List Bool} (hcnt : s.cnt = 23#5) (hlen : bits.length = 24) :
    (sendBits s bits).loaded = s.status ∧ (sendBits s bits).cnt = 23#5 ∧ (sendBits s bits).pdi = wordOfBits bits := by
  obtain ⟨init, last, rfl⟩ := List.eq_nil_or_concat bits |>.resolve_left (List.ne_nil_of_length_pos (by omega))
  rw [List.concat_eq_append] at hlen ⊢
  have hinit : init.length = 23 := by simpa using hlen
  obtain ⟨hloaded, hzero, hpdi⟩ := sendBits_withinFrame h hp (bits := init) (by simp [hcnt, hinit])
  have hzero : (sendBits s init).cnt = 0#5 := by
    apply BitVec.eq_of_toNat_eq
    rw [hzero, hinit, hcnt]
    rfl
  have hpi : (sendBits s init).profile = .later := (sendBits_profile s init).trans hp
  obtain ⟨hlast, hfull, hlatch⟩ := sendBit_later_frameEnd (sendBits_selCfg h init) last hpi hzero
  have hstatus : (sendBits s init).status = s.status := by
    rw [sendBits_status, hpdi]
    rfl
  rw [sendBits_append, ← foldl_shiftIn_eq_wordOfBits hlen s.loaded, List.foldl_append, ← hloaded]
  exact ⟨hlast.trans hstatus, hfull, hlatch⟩

/-- After `m` complete frames, by induction on the frames. -/
theorem sendBits_frames {bits : List Bool} (hcnt : s.cnt = 23#5) (hfresh : s.fresh = true) {m : Nat}
    (hm : 24 * m ≤ bits.length) :
    (sendBits s (bits.take (24 * m))).loaded = frameStatus s bits m ∧
      (sendBits s (bits.take (24 * m))).cnt = 23#5 ∧
      (sendBits s (bits.take (24 * m))).pdi = frameConfig s bits m := by
  induction m with
  | zero =>
    refine ⟨?_, hcnt, rfl⟩
    rw [Nat.mul_zero, List.take_zero, sendBits_nil, State.loaded, hfresh]
    rfl
  | succ m ih =>
    obtain ⟨-, hfull, hpdi⟩ := ih (by omega)
    have hpm : (sendBits s (bits.take (24 * m))).profile = .later := (sendBits_profile s _).trans hp
    have hlen : ((bits.drop (24 * m)).take 24).length = 24 := by
      rw [List.length_take, List.length_drop]
      omega
    obtain ⟨hloaded, hfull', hlatch⟩ := sendBits_frame (sendBits_selCfg h _) hpm hfull hlen
    rw [Nat.mul_add_one, List.take_add, sendBits_append]
    refine ⟨?_, hfull', hlatch⟩
    rw [hloaded, sendBits_status, hpdi]
    rfl

/-- After `m` complete frames and `r` bits of the next one. -/
theorem sendBits_partFrame {bits : List Bool} (hcnt : s.cnt = 23#5) (hfresh : s.fresh = true) {m r : Nat}
    (hr : r < 24) (hm : 24 * m + r ≤ bits.length) :
    (sendBits s (bits.take (24 * m + r))).loaded = ((bits.drop (24 * m)).take r).foldl shiftIn (frameStatus s bits m) ∧
      (sendBits s (bits.take (24 * m + r))).pdi = frameConfig s bits m := by
  obtain ⟨hloaded, hfull, hpdi⟩ := sendBits_frames h hp (bits := bits) hcnt hfresh (m := m) (by omega)
  have hpm : (sendBits s (bits.take (24 * m))).profile = .later := (sendBits_profile s _).trans hp
  have hlen : ((bits.drop (24 * m)).take r).length ≤ (sendBits s (bits.take (24 * m))).cnt.toNat := by
    rw [hfull, List.length_take]
    exact (Nat.min_le_left _ _).trans (Nat.le_of_lt_succ hr)
  obtain ⟨hloaded', -, hpdi'⟩ := sendBits_withinFrame (sendBits_selCfg h _) hpm hlen
  rw [List.take_add, sendBits_append, hloaded', hpdi', hloaded, hpdi]
  exact ⟨rfl, rfl⟩

end

/-- Bit `k` of frame `f` on the read line, but for the first bit of all: bit `23 - k` of the frame's STATUS word (R84). -/
theorem sendBits_sdo_of_frame {s : State} (h : s.selCfg = true) (hp : s.profile = .later) (hcnt : s.cnt = 23#5)
    (hfresh : s.fresh = true) {bits : List Bool} {f k : Nat} (hk : k < 24) (hlen : 24 * f + k < bits.length)
    (hpos : 0 < 24 * f + k) :
    (sendBits s (bits.take (24 * f + k))).sdo = (frameStatus s bits f).getLsbD (23 - k) := by
  have hne : bits.take (24 * f + k) ≠ [] := List.ne_nil_of_length_pos (by rw [List.length_take]; omega)
  have hframe : ((bits.drop (24 * f)).take k).length = k := by
    rw [List.length_take, List.length_drop]
    omega
  obtain ⟨-, hsdo⟩ := sendBits_ne_nil h hne
  obtain ⟨hloaded, -⟩ := sendBits_partFrame h hp hcnt hfresh hk hlen.le
  rw [hsdo, hloaded, getLsbD_foldl_shiftIn _ _ (by omega), hframe, if_neg (by omega)]

/-- Bit `k` of a complete frame's word: the bits of a frame arrive the uppermost first (R45, R69). -/
theorem frameWord_getLsbD {bits : List Bool} {m k : Nat} (hm : 24 * (m + 1) ≤ bits.length) (hk : k < 24) :
    (frameWord bits m).getLsbD k = bits.getD (24 * (m + 1) - 1 - k) false := by
  have hlen : 24 ≤ (bits.drop (24 * m)).length := by
    rw [List.length_drop]
    omega
  have hindex : 24 * m + (24 - 1 - k) = 24 * (m + 1) - 1 - k := by omega
  rw [frameWord, wordOfBits, getLsbD_foldl_shiftIn _ _ hk, List.length_take_of_le hlen, if_pos hk,
    getD_reverse_take hlen hk, List.getD_eq_getElem?_getD, List.getElem?_drop, hindex, ← List.getD_eq_getElem?_getD]

/-- Settles O52: the deassertion latches nothing, so the register holds what the complete frames left in it. -/
theorem laterTransactionLatch : Obligations.LaterTransactionLatch := by
  unfold Obligations.LaterTransactionLatch
  intro s bits hp ha hq hf hcnt
  obtain ⟨hstart, hsel, -⟩ := selEffect_startCfg ((phaseA_iff s).2 (.inr ha)) hq hf
  have hpu : (sendBits (s.setCode 1#3) bits).profile = .later := (sendBits_profile _ bits).trans hp
  have hcode : 0#3 ≠ (sendBits (s.setCode 1#3) bits).inp.code := by rw [sendBits_code]; simp
  have hend := selEffect_cfg_later (sendBits_selCfg hsel bits) hpu hcode
  have hpdi : (sendBits (s.setCode 1#3) bits).pdi = frameConfig s bits (bits.length / 24) := by
    have hall := Nat.div_add_mod bits.length 24
    obtain ⟨-, hpdi⟩ := sendBits_partFrame hsel hp hcnt hf (Nat.mod_lt bits.length (by decide)) hall.le
    rwa [hall, List.take_length] at hpdi
  have hlatch : (selEffect 0#3 (sendBits (selEffect 1#3 s) bits)).pdi = frameConfig s bits (bits.length / 24) := by
    rw [hstart, hend, ← hpdi]
    rfl
  refine ⟨_, runEvents_xfer hq.2 1#3 bits, xfer_quiescent hq.2 1#3 bits, ?_, ?_, fun hshort => ?_, fun hlong k hk => ?_⟩
  · rw [hstart, hend]
    rfl
  · rw [hstart, hend]
    rfl
  · rw [hlatch, Nat.div_eq_of_lt hshort]
    rfl
  · have hsome : bits.length / 24 - 1 + 1 = bits.length / 24 := by omega
    rw [hlatch, frameConfig, if_neg (by omega), frameWord_getLsbD (by omega) hk, hsome]

/-- Settles O53: the first bit is left over, the others are those of frame 0. -/
theorem laterFirstFrameReadWord : Obligations.LaterFirstFrameReadWord := by
  unfold Obligations.LaterFirstFrameReadWord
  intro s bits hp ha hq hf hcnt
  have hA : s.phaseA = true := (phaseA_iff s).2 (.inr ha)
  obtain ⟨-, hsel, -⟩ := selEffect_startCfg hA hq hf
  rw [readWord_cfg hA hq hf, ← List.map_take, List.take_range, Nat.min_comm]
  refine List.map_congr_left fun k hk => congrArg Level.known ?_
  rw [List.mem_range] at hk
  by_cases h0 : k = 0
  · subst h0
    rfl
  · have hsdo := sendBits_sdo_of_frame hsel hp hcnt hf (bits := bits) (f := 0) (k := k) (by omega) (by omega) (by omega)
    rw [Nat.mul_zero, Nat.zero_add] at hsdo
    rw [hsdo, if_neg h0]
    rfl

/-- Settles O59. -/
theorem laterFramesReadWord : Obligations.LaterFramesReadWord := by
  unfold Obligations.LaterFramesReadWord
  intro s bits f k hp ha hq hf hcnt hf1 hk hlen
  have hA : s.phaseA = true := (phaseA_iff s).2 (.inr ha)
  obtain ⟨-, hsel, -⟩ := selEffect_startCfg hA hq hf
  have hconfig : frameConfig s bits (f - 1) = if f = 1 then s.pdi else frameWord bits (f - 2) := by
    rw [frameConfig, Nat.sub_sub]
    exact if_congr (by omega) rfl rfl
  rw [readWord_cfg hA hq hf, List.getElem?_map, List.getElem?_range hlen, Option.map_some,
    sendBits_sdo_of_frame hsel hp hcnt hf hk hlen (by omega), ← hconfig]
  rfl

end Sys2Proof.Machine
end

section
/-! The router's lines by code, phase and path (R87 to R100): which code selects what, the lines of a channel on either
path, and the serial-out multiplexer. -/

namespace Sys2Proof.Machine

open Sys2Proof

/-! ### The outputs, from the router's lines -/

@[simp] theorem outputs_sdo (s : State) : s.outputs.sdo = s.outSdo := rfl
@[simp] theorem outputs_attCs (s : State) : s.outputs.attCs = s.selAtt := rfl
@[simp] theorem outputs_attSdi (s : State) : s.outputs.attSdi = s.inp.sdi := rfl
@[simp] theorem outputs_attLe (s : State) : s.outputs.attLe = !s.selAtt := rfl
@[simp] theorem outputs_attSck (s : State) : s.outputs.attSck = (s.inp.sck && s.selAtt) := rfl

theorem outputs_ddsCs_bit (s : State) (i : Channel) : s.outputs.ddsCs.getLsbD i.val = s.ddsCs i :=
  ofChannels_getLsbD s.ddsCs i

theorem outputs_ddsSck_bit (s : State) (i : Channel) : s.outputs.ddsSck.getLsbD i.val = s.ddsSck i :=
  ofChannels_getLsbD s.ddsSck i

theorem outputs_ddsSdi_bit (s : State) (i : Channel) : s.outputs.ddsSdi.getLsbD i.val = s.ddsSdi i :=
  ofChannels_getLsbD s.ddsSdi i

/-! ### The lines of a channel, by its path -/

theorem lines_shared {s : State} {i : Channel} (h : s.shared i = true) :
    s.ddsCs i = s.selDds i ∧ s.ddsSck i = s.inp.sck ∧ s.ddsSdi i = s.inp.sdi := by
  simp [State.ddsCs, State.ddsSck, State.ddsSdi, h]

theorem lines_auxiliary {s : State} {i : Channel} (h : ¬s.shared i = true) :
    s.ddsCs i = s.inp.auxCs ∧ s.ddsSck i = s.inp.auxSck ∧ s.ddsSdi i = s.inp.auxSdi.getLsbD i.val := by
  simp [State.ddsCs, State.ddsSck, State.ddsSdi, h]

theorem shared_iff_not_auxiliary (s : State) (i : Channel) :
    s.shared i = true ↔ ¬(s.inp.enNu = true ∧ s.mask i = true) := by
  rw [shared_iff, Classical.not_and_iff_not_or_not, Bool.not_eq_true, Bool.not_eq_true]

/-- Settles O37. -/
theorem auxiliaryPathBypass : Obligations.AuxiliaryPathBypass := by
  unfold Obligations.AuxiliaryPathBypass
  intro s i
  rw [outputs_ddsCs_bit, outputs_ddsSck_bit, outputs_ddsSdi_bit]
  refine ⟨fun haux => lines_auxiliary fun hshared => ?_, fun hnot => lines_shared ?_⟩
  · exact (shared_iff_not_auxiliary s i).1 hshared haux
  · exact (shared_iff_not_auxiliary s i).2 hnot

/-! ### The selects -/

/-- In phase B no code selects anything (R89). -/
theorem selects_phaseB {s : State} (h : s.phaseA = false) :
    s.selCfg = false ∧ s.selAtt = false ∧ ∀ i, s.selDds i = false := by
  simp [State.selCfg, State.selAtt, State.selDds, h]

/-- Settles O36: with nothing selected, the select lines of the chain and of every channel on the shared path, and the
chain's gated clock, are 0. -/
theorem phaseBSelectsNothing : Obligations.PhaseBSelectsNothing := by
  unfold Obligations.PhaseBSelectsNothing
  refine fun s => ⟨phaseA_iff s, fun hB => ?_⟩
  obtain ⟨hcfg, hatt, hdds⟩ := selects_phaseB hB
  refine ⟨hcfg, hatt, hdds, hatt, by simp [hatt], fun i hshared => ?_⟩
  obtain ⟨hcs, -, -⟩ := lines_shared hshared
  rw [outputs_ddsCs_bit, hcs, hdds]

theorem selAtt_of_code_ne {s : State} (h : s.inp.code ≠ 2#3) : s.selAtt = false := by
  simp [State.selAtt, h]

theorem selDds_of_code_ne {s : State} {i : Channel} (h3 : s.inp.code ≠ 3#3) (hi : s.inp.code ≠ channelCode i) :
    s.selDds i = false := by
  simp [State.selDds, h3, hi]

/-- Codes 0 to 2 select no channel: a channel's own code is 4 or more (R87). -/
theorem selDds_of_code_lt {s : State} (h : s.inp.code < 3#3) (i : Channel) : s.selDds i = false := by
  have hown : ∀ i, ¬channelCode i < 3#3 := by decide
  exact selDds_of_code_ne (BitVec.ne_of_lt h) fun heq => hown i (heq ▸ h)

theorem broadcastCode_ne_channelCode (i : Channel) : 3#3 ≠ channelCode i := by
  obtain ⟨-, -, -, hne⟩ := channelCode_ne i
  exact hne.symm

/-- In a broadcast an unmasked channel is selected: it is on the shared path (R91, R93). -/
theorem selDds_broadcast {s : State} (hA : s.phaseA = true) (hc : s.inp.code = 3#3) (i : Channel) :
    s.selDds i = !s.mask i := by
  have hown := broadcastCode_ne_channelCode i
  cases hm : s.mask i <;> simp [State.selDds, State.shared, State.bcast, hA, hc, hm, hown]

/-- A channel's own code selects it exactly when it is on the shared path (R93). -/
theorem selDds_ownCode {s : State} {i : Channel} (hA : s.phaseA = true) (hc : s.inp.code = channelCode i) :
    s.selDds i = s.shared i := by
  simp [State.selDds, hA, hc]

/-- Outside a broadcast a channel is selected by its own code alone. -/
theorem code_of_selDds {s : State} {i : Channel} (h3 : s.inp.code ≠ 3#3) (h : s.selDds i = true) :
    s.inp.code = channelCode i := by
  by_contra hne
  simp [selDds_of_code_ne h3 hne] at h

/-- Settles O35: a channel's select by the code, a broadcast or not; and two channels have different codes. -/
theorem routingIsExclusive : Obligations.RoutingIsExclusive := by
  unfold Obligations.RoutingIsExclusive
  intro s hA
  refine ⟨by simp [selCfg_iff, hA], by simp [selAtt_iff, hA], fun i => ?_, fun h3 i j hi hj => ?_⟩
  · change s.selDds i = true ↔ _ ∨ (s.inp.code = channelCode i ∧ _)
    rw [← shared_iff]
    by_cases h3 : s.inp.code = 3#3
    · simp [selDds_broadcast hA h3, h3, broadcastCode_ne_channelCode i]
    · constructor
      · intro h
        have hc := code_of_selDds h3 h
        exact .inr ⟨hc, selDds_ownCode hA hc ▸ h⟩
      · rintro (⟨hc, -⟩ | ⟨hc, hshared⟩)
        · exact absurd hc h3
        · exact (selDds_ownCode hA hc).trans hshared
  · exact channelCode_inj i j ((code_of_selDds h3 hi).symm.trans (code_of_selDds h3 hj))

/-! ### The serial-out multiplexer -/

theorem outSdo_idle {s : State} (h : s.inp.code = 0#3) : s.outSdo = .x := by
  simp [State.outSdo, h]

theorem outSdo_att {s : State} (h : s.inp.code = 2#3) : s.outSdo = .known s.inp.attSdo := by
  simp [State.outSdo, h]

theorem outSdo_broadcast_lowest {s : State} (h : s.inp.code = 3#3) {j : Channel} (hj : s.mask j = false)
    (hbelow : ∀ i : Channel, i < j → s.mask i = true) : s.outSdo = .known (s.inp.ddsSdo.getLsbD j.val) := by
  simp [State.outSdo, h, lowestUnmasked_eq_some.2 ⟨hj, hbelow⟩]

theorem outSdo_broadcast_allMasked {s : State} (h : s.inp.code = 3#3) (hall : ∀ i, s.mask i = true) :
    s.outSdo = .x := by
  simp [State.outSdo, h, lowestUnmasked_eq_none.2 hall]

theorem outSdo_channel {s : State} {i : Channel} (h : s.inp.code = channelCode i) :
    s.outSdo = if s.shared i then .known (s.inp.ddsSdo.getLsbD i.val) else .x := by
  rw [State.outSdo, h]
  fin_cases i <;> rfl

/-- Settles O38: the line, code by code; none of them reads the phase. -/
theorem serialOutMultiplexer : Obligations.SerialOutMultiplexer := by
  unfold Obligations.SerialOutMultiplexer
  exact fun s =>
    ⟨outSdo_idle, outSdo_cfg, outSdo_att, fun h j => outSdo_broadcast_lowest h, outSdo_broadcast_allMasked,
      fun i => outSdo_channel, fun p => rfl⟩

end Sys2Proof.Machine
end

section
/-! The phase-A transactions (R101 to R108) and the clock with nothing selected: where a `SEL` leaves the phase, the entry of
a selector where that is phase A, and what each selector then routes. -/

namespace Sys2Proof.Machine

open Sys2Proof

/-! ### Where a `SEL` leaves the phase -/

/-- In LATER the end of a selection leaves the configuration register alone: the SR latches at its frame ends (R81). -/
theorem releaseSr_later_pdi {s : State} (hp : s.profile = .later) : (releaseSr s s).pdi = s.pdi := by
  cases h : s.selCfg with
  | false => rw [releaseSr_unselected h]
  | true => rw [releaseSr_later h hp]; rfl

/-- A `SEL` of another code in LATER: with the enable bit set the end of a selection flips the phase (R125), with the bit
clear the phase is A at the end of the step (R126). -/
theorem selEffect_rbPhase_later {s : State} (hp : s.profile = .later) {c : Code} (hc : c ≠ s.inp.code) :
    (selEffect c s).rbPhase =
      if s.cfg.rbEn then (if s.inp.code = 0#3 then s.rbPhase else s.rbPhase.flip) else .a := by
  obtain ⟨⟨hphase, -⟩, ⟨hprofile, -⟩, -⟩ := releaseSr_frame s s
  obtain ⟨⟨-, -, -, -, hpdi'⟩, ⟨hprofile', -⟩, -⟩ := releaseReadback_frame s (releaseSr s s)
  have hpdi : (releaseSr s s).pdi = s.pdi := releaseSr_later_pdi hp
  have hcfg : (releaseSr s s).cfg = s.cfg := cfg_congr hprofile hpdi
  have htprofile : ((releaseReadback s (releaseSr s s)).setCode c).profile = s.profile := hprofile'.trans hprofile
  have htpdi : ((releaseReadback s (releaseSr s s)).setCode c).pdi = s.pdi := hpdi'.trans hpdi
  rw [selEffect, if_neg hc]
  cases he : s.cfg.rbEn with
  | false =>
    rw [settlePhase_of_cleared hp he htprofile htpdi]
    rfl
  | true =>
    rw [settlePhase_of_enabled he htprofile htpdi, if_pos rfl]
    by_cases h0 : s.inp.code = 0#3
    · rw [releaseReadback_idle h0, if_pos h0]
      exact hphase
    · rw [releaseReadback_later hp h0, if_neg h0]
      simp [phaseAfterDeassertion, hcfg, he]

/-- `EntersPhaseA` says what it is for: the transaction the `SEL` starts, or goes on with, is in phase A. -/
theorem selEffect_phaseA {s : State} {c : Code} (h : s.EntersPhaseA c) : (selEffect c s).phaseA = true := by
  rw [phaseA_iff, selEffect_profile]
  cases hp : s.profile with
  | base => exact .inl rfl
  | later =>
    right
    have hA := h.resolve_left (by simp [hp])
    by_cases hc : c = s.inp.code
    · subst hc
      rw [selEffect_same]
      simpa using hA
    · rw [selEffect_rbPhase_later hp hc]
      by_cases h0 : s.inp.code = 0#3
      · rw [if_pos (.inl h0)] at hA
        simp [h0, hA]
      · rw [if_neg (not_or_intro h0 (Ne.symm hc))] at hA
        cases he : s.cfg.rbEn with
        | false => rfl
        | true => simp [h0, hA he, Phase.flip]

/-- A `SEL` leaves a phase that follows the enable bit so (R126, R154.4). -/
theorem selEffect_follows {s : State} (hs : s.PhaseFollowsEnable) (c : Code) :
    (selEffect c s).PhaseFollowsEnable := by
  by_cases hc : c = s.inp.code
  · rw [hc, selEffect_same]
    exact hs
  · rw [selEffect, if_neg hc]
    exact settlePhase_follows _

/-! ### Entering a phase-A transaction -/

theorem selEffect_code (c : Code) (s : State) : (selEffect c s).inp.code = c := by
  rw [selEffect_inp]

theorem sel4_phaseA {s : State} (h : s.phaseA = true) : s.sel4 = 0#1 ++ s.inp.code := by
  rw [State.sel4, phaseB_eq_not_phaseA, h]
  rfl

/-- The selector of code `c` enters a phase-A transaction where the `SEL` event of its code does (R66, log 7). -/
theorem enterSelector_phaseA {s : State} {c : Code} (h : s.EntersPhaseA c) {w : SelectorWord} (hw : w = 0#1 ++ c) :
    enterSelector w s = .next (selEffect c s) ∧ (selEffect c s).sel4 = w := by
  have hcode : w.extractLsb' 0 3 = c := by rw [hw, BitVec.extractLsb'_append_eq_right]
  have hsel4 : (selEffect c s).sel4 = w := by rw [sel4_phaseA (selEffect_phaseA h), selEffect_code, hw]
  exact ⟨(enterSelector_next_iff w s _).2 ⟨by rw [hcode], hsel4⟩, hsel4⟩

/-- Settles O28: the code selects nothing, and `clockEdgesElsewhere` says what the edges do. -/
theorem idleSelector : Obligations.IdleSelector := by
  unfold Obligations.IdleSelector
  intro p s hs
  have hcode : (selEffect 0#3 s).inp.code = 0#3 := selEffect_code 0#3 s
  have hatt : (selEffect 0#3 s).selAtt = false := selAtt_of_code_ne (by simp [hcode])
  obtain ⟨hrise, hfall⟩ := clockEdgesElsewhere _ (selEffect_follows hs 0#3)
  exact ⟨_, rfl, rfl, hcode, selCfg_of_code_ne (by simp [hcode]), hatt, selDds_of_code_lt (by simp [hcode]),
    by simp [hatt], outSdo_idle hcode, hrise hcode, hfall (.inl hcode)⟩

/-- Settles O29. -/
theorem cfgSelector : Obligations.CfgSelector := by
  unfold Obligations.CfgSelector
  intro s h
  obtain ⟨henter, hsel4⟩ := enterSelector_phaseA h rfl
  have hcode := selEffect_code 1#3 s
  exact ⟨_, henter, rfl, hsel4, (selCfg_iff _).2 ⟨hcode, selEffect_phaseA h⟩, selAtt_of_code_ne (by simp [hcode]),
    selDds_of_code_lt (by simp [hcode]), outSdo_cfg hcode⟩

/-- Settles O30. -/
theorem attSelector : Obligations.AttSelector := by
  unfold Obligations.AttSelector
  intro s h
  obtain ⟨henter, hsel4⟩ := enterSelector_phaseA h rfl
  have hcode := selEffect_code 2#3 s
  have hatt : (selEffect 2#3 s).selAtt = true := (selAtt_iff _).2 ⟨hcode, selEffect_phaseA h⟩
  exact ⟨_, henter, rfl, hsel4, hatt, hatt, by simp [hatt], by simp [hatt], rfl, outSdo_att hcode,
    selCfg_of_code_ne (by simp [hcode]), selDds_of_code_lt (by simp [hcode])⟩

/-- Settles O31. -/
theorem broadcastSelector : Obligations.BroadcastSelector := by
  unfold Obligations.BroadcastSelector
  intro s h
  obtain ⟨henter, hsel4⟩ := enterSelector_phaseA h rfl
  have hcode := selEffect_code 3#3 s
  exact ⟨_, henter, rfl, hsel4, selDds_broadcast (selEffect_phaseA h) hcode, selCfg_of_code_ne (by simp [hcode]),
    selAtt_of_code_ne (by simp [hcode]), fun j => outSdo_broadcast_lowest hcode, outSdo_broadcast_allMasked hcode⟩

/-- `DEVi_SEL` is the selector of channel `i`'s own code. -/
theorem deviceSelector_enters {d : Instr} {i : Channel} {c : Code}
    (h : (d, i, c) ∈ ([(.dev0Sel, 0, 4#3), (.dev1Sel, 1, 5#3), (.dev2Sel, 2, 6#3), (.dev3Sel, 3, 7#3)] :
      List (Instr × Channel × Code))) :
    c = channelCode i ∧ ∀ s, exec d s = enterSelector (0#1 ++ c) s := by
  simp only [List.mem_cons, Prod.mk.injEq, List.not_mem_nil, or_false] at h
  obtain ⟨rfl, rfl, rfl⟩ | ⟨rfl, rfl, rfl⟩ | ⟨rfl, rfl, rfl⟩ | ⟨rfl, rfl, rfl⟩ := h
  · exact ⟨rfl, fun _ => rfl⟩
  · exact ⟨rfl, fun _ => rfl⟩
  · exact ⟨rfl, fun _ => rfl⟩
  · exact ⟨rfl, fun _ => rfl⟩

/-- Settles O32: one argument for the four channels, on the channel's own code. -/
theorem deviceSelectors : Obligations.DeviceSelectors := by
  unfold Obligations.DeviceSelectors
  intro d i c hd s h
  obtain ⟨rfl, hexec⟩ := deviceSelector_enters hd
  obtain ⟨henter, hsel4⟩ := enterSelector_phaseA h rfl
  obtain ⟨-, h1, h2, h3⟩ := channelCode_ne i
  have hcode := selEffect_code (channelCode i) s
  refine ⟨_, (hexec s).trans henter, rfl, hsel4, selDds_ownCode (selEffect_phaseA h) hcode, fun j hj => ?_,
    selCfg_of_code_ne (hcode.trans_ne h1), selAtt_of_code_ne (hcode.trans_ne h2), outSdo_channel hcode⟩
  exact selDds_of_code_ne (hcode.trans_ne h3) fun heq => hj (channelCode_inj j i (heq.symm.trans hcode))

/-! ### The clock with nothing selected -/

theorem setSck_same {s : State} {b : Bool} (h : s.inp.sck = b) : s.setSck b = s := by
  subst h
  rfl

/-- A clock pair with nothing selected raises the clock and lowers it again (R101). -/
theorem runEvents_clockPair_idle {s : State} (hs : s.PhaseFollowsEnable) (hq : s.Quiescent) (l : List Instr) :
    runEvents (.rise :: .fall :: l) s = runEvents l s := by
  obtain ⟨hcode, hsck⟩ := hq
  have hrise : exec .rise s = .next (s.setSck true) := by rw [exec_rise_next hsck, riseEffect_idle hs hcode]
  have hfall : exec .fall (s.setSck true) = .next s := by
    have hsel : (s.setSck true).selCfg = false := selCfg_of_code_ne (hcode.trans_ne (by decide))
    rw [exec_fall_next rfl, fallEffect_elsewhere (s := s.setSck true) hs hsel (presentSiso_idle hcode _)]
    exact congrArg _ (setSck_same hsck)
  rw [runEvents_cons_next hrise, runEvents_cons_next hfall]

/-- Settles O56, by induction on the number of clock pairs. -/
theorem idleClocksChangeNothing : Obligations.IdleClocksChangeNothing := by
  unfold Obligations.IdleClocksChangeNothing
  intro s n hs hq
  induction n with
  | zero => rfl
  | succ n ih => rw [idleClkEvents, runEvents_clockPair_idle hs hq, ih]

end Sys2Proof.Machine
end

section
/-! The protocol revisions (R7, R122): each profile has its own, and STATUS bits 22:16 show the one of the build. -/

namespace Sys2Proof.Machine

open Sys2Proof

/-- The two revisions differ by a gap from 1 to 127, which is not 0 in seven bits (log 2). -/
theorem protoRev_base_ne_later : Config.protoRev .base ≠ Config.protoRev .later := by
  have hgap := Config.protoRevGap.isLt
  have hne : BitVec.ofNat 7 (Config.protoRevGap.val + 1) ≠ 0#7 := by bv_omega
  simp [Config.protoRev, hne]

theorem protoRev_injective : Function.Injective Config.protoRev
  | .base, .base, _ | .later, .later, _ => rfl
  | .base, .later, h => absurd h protoRev_base_ne_later
  | .later, .base, h => absurd h.symm protoRev_base_ne_later

/-- In a state with the revision of its build, the STATUS word's revision field is that of the profile. -/
theorem status_revision {s : State} (h : s.RevisionOfBuild) :
    s.status.extractLsb' 16 7 = Config.protoRev s.profile := by
  obtain ⟨-, -, -, -, hrev⟩ := status_fields s
  exact hrev.trans h

/-- Settles O3: the field holds the revision of the profile, and the revisions of two profiles differ. -/
theorem profilesHaveDifferentRevisions : Obligations.ProfilesHaveDifferentRevisions := by
  unfold Obligations.ProfilesHaveDifferentRevisions
  refine ⟨protoRev_base_ne_later, fun _ _ _ => rfl, fun s t hs ht hprofile => ?_⟩
  rw [status_revision hs, status_revision ht]
  exact protoRev_injective.ne hprofile

end Sys2Proof.Machine
end

section
/-! The read-back machine of LATER in one event (R125 to R132): the capture and the flip of a phase-A device transaction, the
SISO's edges and its re-arming in phase B, and what phase B leaves alone (R126, R134). -/

namespace Sys2Proof.Machine

open Sys2Proof

/-! ### Device transactions of phase A -/

section
variable {s : State} (hp : s.profile = .later) (ha : s.rbPhase = .a) (h0 : s.inp.code ≠ 0#3) (h1 : s.inp.code ≠ 1#3)
include hp ha h0 h1

theorem riseEffect_device_later : riseEffect s = (captureSdo s s).setSck true := by
  have hA : s.phaseA = true := (phaseA_iff s).2 (.inr ha)
  obtain ⟨-, -, -, hphase, -⟩ := sampleReadback_frame s s
  rw [sampleReadback_phaseA hp h0 hA] at hphase
  rw [riseEffect, sampleSr_unselected (selCfg_of_code_ne h1), sampleReadback_phaseA hp h0 hA]
  exact settlePhase_phaseA (hphase.trans ha)

theorem selEffect_device_later {c : Code} (hc : c ≠ s.inp.code) :
    selEffect c s = (s.setRbPhase (if s.cfg.rbEn then .b else .a)).setCode c := by
  have hB : s.phaseB = false := by simp [phaseB_later hp, ha]
  rw [selEffect, if_neg hc, releaseSr_unselected (selCfg_of_code_ne h1), releaseReadback_later hp h0]
  simp only [hB, phaseAfterDeassertion, ha, Bool.and_self]
  cases he : s.cfg.rbEn with
  | true => exact settlePhase_of_enabled he rfl rfl
  | false => exact settlePhase_phaseA rfl

end

/-- Settles O12, by what the serial-out line shows. -/
theorem riseInLaterDeviceTransaction : Obligations.RiseInLaterDeviceTransaction := by
  unfold Obligations.RiseInLaterDeviceTransaction
  intro s hp ha h0 h1 hsck
  rw [exec_rise_next hsck, riseEffect_device_later hp ha h0 h1]
  cases hout : s.outSdo with
  | known b =>
    rw [captureSdo_known hout, shiftIn_capture]
    rfl
  | x =>
    rw [captureSdo_x hout, shiftIn_capture]
    rfl

/-- Settles O21. -/
theorem selEndsLaterDeviceTransaction : Obligations.SelEndsLaterDeviceTransaction := by
  unfold Obligations.SelEndsLaterDeviceTransaction
  intro s c hp ha h0 h1 hc
  rw [exec_sel_next, selEffect_device_later hp ha h0 h1 hc]
  rfl

/-! ### Phase-B transactions -/

/-- A phase-B transaction is in progress; the enable bit is set, as R154.4 has it. -/
structure State.ReadbackOpen (s : State) : Prop where
  later : s.profile = .later
  phaseB : s.rbPhase = .b
  enabled : s.cfg.rbEn = true
  code_ne : s.inp.code ≠ 0#3

theorem readbackOpen_congr {s t : State} (h : s.ReadbackOpen) (h1 : t.profile = s.profile) (h2 : t.pdi = s.pdi)
    (h3 : t.rbPhase = s.rbPhase) (h4 : t.inp.code = s.inp.code) : t.ReadbackOpen :=
  ⟨h1.trans h.later, h3.trans h.phaseB, cfg_congr h1 h2 ▸ h.enabled, h4.trans_ne h.code_ne⟩

/-- The word the next sample edge of a phase-B transaction leaves in the SISO (R130). -/
def State.sisoNext (s : State) : SisoWord :=
  if s.sisoFresh then s.readbackSource s.inp.code else shiftIn s.siso false

theorem sisoNext_fresh {s : State} (h : s.sisoFresh = true) : s.sisoNext = s.readbackSource s.inp.code := by
  rw [State.sisoNext, if_pos h]

theorem sisoNext_notFresh {s : State} (h : s.sisoFresh = false) : s.sisoNext = shiftIn s.siso false := by
  simp [State.sisoNext, h]

theorem setSiso_setSisoFresh_same {s : State} {b : Bool} (h : s.sisoFresh = b) (v : SisoWord) :
    (s.setSiso v).setSisoFresh b = s.setSiso v := by
  subst h
  rfl

theorem sampleSiso_eq (s : State) : sampleSiso s s = (s.setSiso s.sisoNext).setSisoFresh false := by
  cases hf : s.sisoFresh with
  | true => rw [sampleSiso, if_pos hf, sisoNext_fresh hf]
  | false =>
    rw [sisoNext_notFresh hf, setSiso_setSisoFresh_same hf]
    simp [sampleSiso, hf]

theorem presentSiso_phaseB {s0 : State} (hB : s0.phaseB = true) (hc : s0.inp.code ≠ 0#3) (s : State) :
    presentSiso s0 s = s.setSisoOut (s0.siso.getLsbD 22) := by
  simp [presentSiso, hB, hc]

theorem selCfg_of_phaseB {s : State} (h : s.phaseA = false) : s.selCfg = false := (selects_phaseB h).1

section
variable {s : State} (h : s.ReadbackOpen)
include h

theorem State.ReadbackOpen.phaseA_eq : s.phaseA = false := by
  simp [phaseA_later h.later, h.phaseB]

theorem State.ReadbackOpen.phaseB_eq : s.phaseB = true := by
  simp [phaseB_later h.later, h.phaseB]

theorem State.ReadbackOpen.selCfg_eq : s.selCfg = false := selCfg_of_phaseB h.phaseA_eq

theorem riseEffect_phaseB : riseEffect s = ((s.setSiso s.sisoNext).setSisoFresh false).setSck true := by
  rw [riseEffect, sampleSr_unselected h.selCfg_eq, sampleReadback_phaseB h.later h.code_ne h.phaseA_eq, sampleSiso_eq]
  exact settlePhase_of_enabled h.enabled rfl rfl

theorem fallEffect_phaseB : fallEffect s = (s.setSisoOut (s.siso.getLsbD 22)).setSck false := by
  rw [fallEffect, presentSr_unselected h.selCfg_eq, presentSiso_phaseB h.phaseB_eq h.code_ne]
  exact settlePhase_of_enabled h.enabled rfl rfl

theorem selEffect_phaseB {c : Code} (hc : c ≠ s.inp.code) :
    selEffect c s = ((s.setSisoFresh true).setRbPhase .a).setCode c := by
  rw [selEffect, if_neg hc, releaseSr_unselected h.selCfg_eq, releaseReadback_later h.later h.code_ne, if_pos h.phaseB_eq]
  simp only [phaseAfterDeassertion, h.enabled, h.phaseB, Bool.and_self, if_true, Phase.flip]
  exact settlePhase_phaseA rfl

end

/-! ### What the SISO keeps elsewhere -/

theorem phaseA_or_code_zero {s : State} (h : s.profile = .base ∨ s.rbPhase = .a ∨ s.inp.code = 0#3) :
    s.phaseA = true ∨ s.inp.code = 0#3 := by
  rw [phaseA_iff, or_assoc]
  exact h

/-- Outside phase B a sample edge of the read-back machine is the capture's, if it is one at all (R128). -/
theorem sampleReadback_elsewhere {s0 : State} (h : s0.phaseA = true ∨ s0.inp.code = 0#3) (s : State) :
    (sampleReadback s0 s).siso = s.siso ∧ (sampleReadback s0 s).sisoFresh = s.sisoFresh := by
  obtain hA | h0 := h
  · rw [sampleReadback, if_pos hA, captureSdo]
    repeat' split
    all_goals exact ⟨rfl, rfl⟩
  · rw [sampleReadback_idle h0]
    exact ⟨rfl, rfl⟩

theorem riseEffect_keeps_siso {s : State} (h : s.phaseA = true ∨ s.inp.code = 0#3) :
    (riseEffect s).siso = s.siso ∧ (riseEffect s).sisoFresh = s.sisoFresh := by
  obtain ⟨⟨-, -, hsiso, -, hfresh⟩, -⟩ := sampleSr_frame s s
  obtain ⟨hsiso', hfresh'⟩ := sampleReadback_elsewhere h (sampleSr s s)
  exact ⟨hsiso'.trans hsiso, hfresh'.trans hfresh⟩

theorem presentSiso_elsewhere {s0 : State} (h : s0.phaseA = true ∨ s0.inp.code = 0#3) (s : State) :
    presentSiso s0 s = s := by
  obtain hA | h0 := h
  · exact presentSiso_phaseA (by simp [phaseB_eq_not_phaseA, hA]) s
  · exact presentSiso_idle h0 s

theorem fallEffect_keeps_sisoOut {s : State} (h : s.phaseA = true ∨ s.inp.code = 0#3) :
    (fallEffect s).sisoOut = s.sisoOut := by
  obtain ⟨⟨-, -, -, hout, -⟩, -⟩ := presentSr_frame s s
  rw [fallEffect, presentSiso_elsewhere h]
  exact hout

/-! ### The statements about one event -/

/-- Settles O13: in phase B by whether the SISO is armed. -/
theorem riseInPhaseB : Obligations.RiseInPhaseB := by
  unfold Obligations.RiseInPhaseB
  refine ⟨fun s hp hb he h0 hsck => ?_, fun s h hsck => ⟨_, exec_rise_next hsck, ?_⟩⟩
  · rw [exec_rise_next hsck, riseEffect_phaseB ⟨hp, hb, he, h0⟩]
    by_cases hf : s.sisoFresh = true
    · rw [if_pos hf, sisoNext_fresh hf]
      rfl
    · have hf' : s.sisoFresh = false := by simpa using hf
      rw [if_neg hf, sisoNext_notFresh hf', shiftIn_siso, setSiso_setSisoFresh_same hf']
      rfl
  · exact riseEffect_keeps_siso (phaseA_or_code_zero h)

/-- Settles O15. -/
theorem fallInPhaseB : Obligations.FallInPhaseB := by
  unfold Obligations.FallInPhaseB
  refine ⟨fun s hp hb he h0 hsck => ?_, fun s h hsck => ⟨_, exec_fall_next hsck, ?_⟩⟩
  · rw [exec_fall_next hsck, fallEffect_phaseB ⟨hp, hb, he, h0⟩]
    rfl
  · exact fallEffect_keeps_sisoOut (phaseA_or_code_zero h)

/-- Settles O22. -/
theorem selEndsPhaseBTransaction : Obligations.SelEndsPhaseBTransaction := by
  unfold Obligations.SelEndsPhaseBTransaction
  intro s c hp hb he h0 hc
  rw [exec_sel_next, selEffect_phaseB ⟨hp, hb, he, h0⟩ hc]
  rfl

/-- Settles O47: every effect but a `SEL` of the current code ends with R126. -/
theorem phaseRestsWhileDisabled : Obligations.PhaseRestsWhileDisabled := by
  unfold Obligations.PhaseRestsWhileDisabled
  intro i s t hs h
  obtain ⟨-, -, rfl⟩ | ⟨-, -, rfl⟩ | ⟨-, c, rfl⟩ | ⟨b, -, rfl⟩ | ⟨r, -, -, rfl⟩ := exec_next_cases h
  · exact settlePhase_follows _
  · exact settlePhase_follows _
  · exact selEffect_follows hs c
  · exact settlePhase_follows _
  · exact settlePhase_follows _

theorem selEffect_unselected_sameSr {s : State} (h : s.selCfg = false) (c : Code) : s.SameSr (selEffect c s) := by
  by_cases hc : c = s.inp.code
  · rw [hc, selEffect_same]
    exact ⟨rfl, rfl, rfl, rfl, rfl⟩
  · obtain ⟨hsame, -⟩ := releaseReadback_frame s s
    rw [selEffect, if_neg hc, releaseSr_unselected h]
    exact hsame

/-- Settles O48: none of the five effects writes an SR that is not selected. -/
theorem phaseBLeavesTheSr : Obligations.PhaseBLeavesTheSr := by
  unfold Obligations.PhaseBLeavesTheSr
  intro i s t hB h
  have hsel : s.selCfg = false := selCfg_of_phaseB hB
  refine ⟨hsel, ?_⟩
  obtain ⟨-, -, rfl⟩ | ⟨-, -, rfl⟩ | ⟨-, c, rfl⟩ | ⟨b, -, rfl⟩ | ⟨r, -, -, rfl⟩ := exec_next_cases h
  · exact riseEffect_unselected_sameSr hsel
  · exact fallEffect_unselected_sameSr hsel
  · exact selEffect_unselected_sameSr hsel c
  · exact ⟨rfl, rfl, rfl, rfl, rfl⟩
  · exact ⟨rfl, rfl, rfl, rfl, rfl⟩

end Sys2Proof.Machine
end

section
/-! Read-back transactions (R135 to R142): the entry of a phase-B selector, and the bits a phase-B transaction of any length
reads from its source. -/

namespace Sys2Proof.Machine

open Sys2Proof

/-! ### Entering a phase-B transaction -/

/-- In LATER no `SEL` changes the configuration register. -/
theorem selEffect_later_pdi {s : State} (hp : s.profile = .later) (c : Code) : (selEffect c s).pdi = s.pdi := by
  by_cases hc : c = s.inp.code
  · rw [hc, selEffect_same]
  · obtain ⟨⟨-, -, -, -, hpdi⟩, -⟩ := releaseReadback_frame s (releaseSr s s)
    rw [selEffect, if_neg hc]
    exact hpdi.trans (releaseSr_later_pdi hp)

/-- `EntersPhaseB` says what it is for: the transaction the `SEL` starts, or goes on with, is in phase B. -/
theorem selEffect_readbackOpen {s : State} {c : Code} (h : s.EntersPhaseB c) (h0 : c ≠ 0#3) :
    (selEffect c s).ReadbackOpen := by
  obtain ⟨hp, he, hphase⟩ := h
  have hprofile := selEffect_profile c s
  refine ⟨hprofile.trans hp, ?_, ?_, (selEffect_code c s).trans_ne h0⟩
  · by_cases hc : c = s.inp.code
    · subst hc
      rw [selEffect_same]
      simpa using hphase
    · rw [selEffect_rbPhase_later hp hc, if_pos he]
      by_cases hidle : s.inp.code = 0#3
      · rw [if_pos (.inl hidle)] at hphase
        rw [if_pos hidle, hphase]
      · rw [if_neg (not_or_intro hidle (Ne.symm hc))] at hphase
        rw [if_neg hidle, hphase, Phase.flip]
  · rw [cfg_congr hprofile (selEffect_later_pdi hp c), he]

theorem sel4_phaseB {s : State} (h : s.phaseB = true) : s.sel4 = 1#1 ++ s.inp.code := by
  rw [State.sel4, h]
  rfl

/-- The selector of code `c` enters a phase-B transaction where the `SEL` event of its code does (R66, log 7). -/
theorem enterSelector_phaseB {s : State} {c : Code} (h : s.EntersPhaseB c) (h0 : c ≠ 0#3) :
    enterSelector (1#1 ++ c) s = .next (selEffect c s) ∧ (selEffect c s).sel4 = 1#1 ++ c := by
  have hcode : (1#1 ++ c).extractLsb' 0 3 = c := BitVec.extractLsb'_append_eq_right
  have hsel4 : (selEffect c s).sel4 = 1#1 ++ c := by
    rw [sel4_phaseB (selEffect_readbackOpen h h0).phaseB_eq, selEffect_code]
  exact ⟨(enterSelector_next_iff _ s _).2 ⟨by rw [hcode], hsel4⟩, hsel4⟩

/-- Each read-back selector is that of its code, and its source is the code's (R129, R136 to R142). -/
theorem readbackSelector_enters {d : Instr} {c : Code} {source : State → SisoWord}
    (h : d = .rbCfg ∧ c = 1#3 ∧ source = (fun s => s.protoRev.setWidth 23) ∨
      d = .rbAtt ∧ c = 2#3 ∧ source = (fun s => s.rbCap.setWidth 23) ∨
      d = .rbBcast ∧ c = 3#3 ∧ source = (fun s => s.inp.pllLock.setWidth 23) ∨
      d = .rbDev0 ∧ c = 4#3 ∧ source = (fun s => s.rbCap.setWidth 23) ∨
      d = .rbDev1 ∧ c = 5#3 ∧ source = (fun s => s.rbCap.setWidth 23) ∨
      d = .rbDev2 ∧ c = 6#3 ∧ source = (fun s => s.rbCap.setWidth 23) ∨
      d = .rbDev3 ∧ c = 7#3 ∧ source = (fun s => s.rbCap.setWidth 23)) :
    c ≠ 0#3 ∧ (∀ s, exec d s = enterSelector (1#1 ++ c) s) ∧ ∀ s, source s = s.readbackSource c := by
  obtain ⟨rfl, rfl, rfl⟩ | ⟨rfl, rfl, rfl⟩ | ⟨rfl, rfl, rfl⟩ | ⟨rfl, rfl, rfl⟩ | ⟨rfl, rfl, rfl⟩ | ⟨rfl, rfl, rfl⟩ |
    ⟨rfl, rfl, rfl⟩ := h
  all_goals exact ⟨by decide, fun _ => rfl, fun _ => rfl⟩

/-- Settles O33: one argument for the seven selectors, on the selector's code. -/
theorem readbackSelectors : Obligations.ReadbackSelectors := by
  unfold Obligations.ReadbackSelectors
  intro d c source hd s h
  obtain ⟨h0, hexec, hsource⟩ := readbackSelector_enters hd
  obtain ⟨henter, hsel4⟩ := enterSelector_phaseB h h0
  have hopen := selEffect_readbackOpen h h0
  obtain ⟨hcfg, hatt, hdds⟩ := selects_phaseB hopen.phaseA_eq
  refine ⟨_, (hexec s).trans henter, rfl, hsel4, hcfg, hatt, hdds, by simp [hatt], fun hsck hf => ?_⟩
  rw [exec_rise_next hsck, riseEffect_phaseB hopen, sisoNext_fresh hf, selEffect_code, ← hsource]
  rfl

/-! ### The bits of a phase-B transaction -/

theorem sameSr_trans {s t u : State} (h : s.SameSr t) (h' : t.SameSr u) : s.SameSr u := by
  obtain ⟨hsr, hsdo, hfresh, hcnt, hpdi⟩ := h
  obtain ⟨hsr', hsdo', hfresh', hcnt', hpdi'⟩ := h'
  exact ⟨hsr'.trans hsr, hsdo'.trans hsdo, hfresh'.trans hfresh, hcnt'.trans hcnt, hpdi'.trans hpdi⟩

section
variable {s : State} (h : s.ReadbackOpen)
include h

theorem sendBit_phaseB (b : Bool) :
    sendBit s b =
      ((((s.setSdi b).setSiso s.sisoNext).setSisoFresh false).setSisoOut (s.sisoNext.getLsbD 22)).setSck false := by
  have hsdi : (s.setSdi b).ReadbackOpen := readbackOpen_congr h rfl rfl rfl rfl
  rw [sendBit, settlePhase_enabled hsdi.enabled, riseEffect_phaseB hsdi]
  exact fallEffect_phaseB (readbackOpen_congr hsdi rfl rfl rfl rfl)

theorem sendBit_readbackOpen (b : Bool) : (sendBit s b).ReadbackOpen := by
  rw [sendBit_phaseB h]
  apply readbackOpen_congr h <;> simp

theorem sendBit_sisoNext (b : Bool) : (sendBit s b).sisoNext = shiftIn s.sisoNext false := by
  rw [sendBit_phaseB h]
  exact sisoNext_notFresh rfl

theorem sendBit_sisoOut (b : Bool) : (sendBit s b).sisoOut = s.sisoNext.getLsbD 22 := by
  rw [sendBit_phaseB h]
  rfl

theorem sendBits_readbackOpen (bits : List Bool) : (sendBits s bits).ReadbackOpen := by
  induction bits generalizing s with
  | nil => exact h
  | cons b bs ih => exact ih (sendBit_readbackOpen h b)

theorem sendBit_phaseB_frame (b : Bool) : s.SameSr (sendBit s b) ∧ (sendBit s b).rbCap = s.rbCap := by
  simp [sendBit_phaseB h, State.SameSr]

/-- A phase-B transaction touches neither the SR nor the capture (R134). -/
theorem sendBits_phaseB_frame (bits : List Bool) :
    s.SameSr (sendBits s bits) ∧ (sendBits s bits).rbCap = s.rbCap := by
  induction bits generalizing s with
  | nil => exact ⟨⟨rfl, rfl, rfl, rfl, rfl⟩, rfl⟩
  | cons b bs ih =>
    obtain ⟨hsame, hcap⟩ := sendBit_phaseB_frame h b
    obtain ⟨hsame', hcap'⟩ := ih (sendBit_readbackOpen h b)
    exact ⟨sameSr_trans hsame hsame', hcap'.trans hcap⟩

/-- Each bit sent moves the word to shift out up by one place. -/
theorem sendBits_sisoNext {bits : List Bool} {k : Nat} (hlen : bits.length ≤ k) (hk : k < 23) :
    (sendBits s bits).sisoNext.getLsbD k = s.sisoNext.getLsbD (k - bits.length) := by
  induction bits generalizing s with
  | nil => rfl
  | cons b bs ih =>
    rw [List.length_cons] at hlen
    have hpos : k - bs.length ≠ 0 := by omega
    have hlt : k - bs.length < 23 := by omega
    rw [sendBits_cons, ih (sendBit_readbackOpen h b) (by omega), sendBit_sisoNext h, shiftIn, BitVec.getLsbD_shiftConcat,
      List.length_cons, ← Nat.sub_sub]
    simp [hpos, hlt]

/-- After at least one bit the line shows the word's bits from bit 22 down (R131, R135). -/
theorem sendBits_sisoOut {bits : List Bool} (hne : bits ≠ []) (hlen : bits.length ≤ 23) :
    (sendBits s bits).sisoOut = s.sisoNext.getLsbD (23 - bits.length) := by
  obtain ⟨init, last, rfl⟩ := List.eq_nil_or_concat bits |>.resolve_left hne
  rw [List.concat_eq_append, List.length_append, List.length_singleton] at hlen ⊢
  rw [sendBits_append, sendBits_cons, sendBits_nil, sendBit_sisoOut (sendBits_readbackOpen h init),
    sendBits_sisoNext h (by omega) (by decide), Nat.sub_add_eq, Nat.sub_right_comm]

end

/-- The read-back word of a transaction: at each bit the read-back line as the bits before it left it (R72, R135). -/
theorem readbackWord_xfer {s : State} (h : s.inp.sck = false) (c : Code) (bits : List Bool) :
    readbackWord (xferEvents c bits) s =
      (List.range bits.length).map fun k => (sendBits (selEffect c s) (bits.take k)).rbSdo :=
  sampledAtRise_xfer (fun _ _ => rfl) h c bits

/-- Settles O54: the first bit is left over, the others come from the source the first sample edge loads; the deassertion
arms the SISO again and flips the phase. -/
theorem readbackTransaction : Obligations.ReadbackTransaction := by
  unfold Obligations.ReadbackTransaction
  intro s c bits hp hb he hq hf h0
  obtain ⟨hidle, hsck⟩ := hq
  have hstart : selEffect c s = s.setCode c := selEffect_idle (fun _ hoff => by simp [he] at hoff) hidle c
  have hopen : (s.setCode c).ReadbackOpen := ⟨hp, hb, he, h0⟩
  constructor
  · rw [readbackWord_xfer hsck, hstart, ← List.map_take, List.take_range, Nat.min_comm]
    refine List.map_congr_left fun k hk => ?_
    rw [List.mem_range] at hk
    rw [rbSdo_later (sendBits_readbackOpen hopen _).later]
    refine congrArg some ?_
    by_cases hk0 : k = 0
    · subst hk0
      rfl
    · have hlen : (bits.take k).length = k := List.length_take_of_le (by omega)
      have hne : bits.take k ≠ [] := List.ne_nil_of_length_pos (by omega)
      have hsource : (s.setCode c).sisoNext = s.readbackSource c := sisoNext_fresh hf
      rw [sendBits_sisoOut hopen hne (by omega), hsource, hlen, if_neg hk0]
      rfl
  · have hcode : 0#3 ≠ (sendBits (s.setCode c) bits).inp.code := by
      rw [sendBits_code]
      exact h0.symm
    have hend := selEffect_phaseB (sendBits_readbackOpen hopen bits) hcode
    obtain ⟨hsame, hcap⟩ := sendBits_phaseB_frame hopen bits
    refine ⟨_, runEvents_xfer hsck c bits, xfer_quiescent hsck c bits, ?_⟩
    rw [hstart, hend]
    exact ⟨hsame, hcap, rfl, rfl⟩

end Sys2Proof.Machine
end

section
/-! The step and the level events (R145, R148 to R151): the item a step runs, what a `SEL`, an `SDI` and an `ENV` write, and
what every select change leaves alone. -/

namespace Sys2Proof.Machine

open Sys2Proof

theorem fetch_item {s : State} {it : Item} {rest : List Item} {i : Instr} (hp : s.pending = it :: rest)
    (hd : decodeItem it = .instr i) : s.fetch = .item i (s.setPending rest) := by
  simp [State.fetch, hp, hd]

/-- Settles O4. -/
theorem stepRunsDecodedItem : Obligations.StepRunsDecodedItem := by
  unfold Obligations.StepRunsDecodedItem
  intro s it rest i hp hd
  rw [step, fetch_item hp hd]
  rfl

/-- In BASE the end of a device transaction writes the code: no SR is released and there is no phase to flip. -/
theorem selEffect_device_base {s : State} (hp : s.profile = .base) (h1 : s.inp.code ≠ 1#3) (c : Code) :
    selEffect c s = s.setCode c := by
  by_cases hc : c = s.inp.code
  · rw [hc, selEffect_same]
    rfl
  · rw [selEffect_base hp hc, releaseSr_unselected (selCfg_of_code_ne h1)]

/-- Settles O23. -/
theorem selThatWritesTheCodeAlone : Obligations.SelThatWritesTheCodeAlone := by
  unfold Obligations.SelThatWritesTheCodeAlone
  rintro s c hs (h0 | ⟨hp, h1⟩)
  · rw [exec_sel_next, selEffect_idle hs h0]
    rfl
  · rw [exec_sel_next, selEffect_device_base hp h1]
    rfl

/-- Where the phase follows the enable bit, a change of input levels is settled at once (R126, R149, R150). -/
theorem settlePhase_setInp {s : State} (hs : s.PhaseFollowsEnable) (x : Inputs) :
    settlePhase (s.setInp x) = s.setInp x :=
  settlePhase_of_same hs rfl rfl rfl

/-- Settles O25: the outputs are functions of the state after the event. -/
theorem sdiSetsSerialIn : Obligations.SdiSetsSerialIn := by
  unfold Obligations.SdiSetsSerialIn
  intro s b hs
  have hnext : exec (.sdi b) s = .next (s.setSdi b) := by rw [exec_sdi_next, State.setSdi, settlePhase_setInp hs]
  refine ⟨s.setSdi b, hnext, rfl, rfl, fun i hshared => ?_⟩
  obtain ⟨-, -, hsdi⟩ := lines_shared hshared
  rw [outputs_ddsSdi_bit, hsdi]
  rfl

theorem exec_env_next {r : EnvRecord} (h : r.legal = true) (s : State) :
    exec (.env r) s = .next (settlePhase (s.setInp (s.inp.withEnv r))) :=
  (execEnv_next_iff r s _).2 ⟨h, rfl⟩

/-- Settles O26, with the input levels of `Inputs.withEnv`. -/
theorem envSetsNamedInputs : Obligations.EnvSetsNamedInputs := by
  unfold Obligations.EnvSetsNamedInputs
  intro s r hs hbus hstrap
  have hlegal : r.legal = true := by simp [EnvRecord.legal, hbus, hstrap]
  have hnext : exec (.env r) s = .next (s.setInp (s.inp.withEnv r)) := by
    rw [exec_env_next hlegal, settlePhase_setInp hs]
  exact ⟨s.inp.withEnv r, hnext, rfl, rfl, rfl, rfl, rfl, rfl, rfl, rfl, rfl, rfl, rfl, rfl, rfl, rfl, rfl⟩

/-- Settles O24: `SEL` and the selectors have the effect of a `SEL` event, whose frame is `selEffect_frame`. -/
theorem selectChangesFrame : Obligations.SelectChangesFrame := by
  unfold Obligations.SelectChangesFrame
  intro i s t hi h
  obtain ⟨rfl, -⟩ | ⟨rfl, -⟩ | ⟨-, c, rfl⟩ | ⟨b, rfl, -⟩ | ⟨r, rfl, -⟩ := exec_next_cases h
  · simp at hi
  · simp at hi
  · obtain ⟨hparam, hsr, hsdo, hcap, hsiso, hout, hdraws⟩ := selEffect_frame c s
    exact ⟨hsr, hsdo, hcap, hsiso, hout, by rw [selEffect_inp], hparam, hdraws⟩
  · simp at hi
  · simp at hi

end Sys2Proof.Machine
end

section
/-! What may change the read-back phase and the configuration register (R154.5, R154.6): a clock edge keeps the phase, and
the register has one latch in each profile. -/

namespace Sys2Proof.Machine

open Sys2Proof

/-! ### The phase -/

/-- A `RISE` keeps the phase, also the one whose latch writes the enable bit: a selected SR is in phase A. -/
theorem riseEffect_rbPhase {s : State} (hs : s.PhaseFollowsEnable) : (riseEffect s).rbPhase = s.rbPhase := by
  cases hsel : s.selCfg with
  | true =>
    obtain ⟨-, hphase⟩ := riseEffect_cfg_sameSr hsel
    exact hphase
  | false =>
    obtain ⟨⟨-, -, -, -, hpdi⟩, ⟨hprofile, -⟩, -, hphase, -⟩ := sampleReadback_frame s s
    have hsettled : riseEffect s = (sampleReadback s s).setSck true := by
      rw [riseEffect, sampleSr_unselected hsel]
      exact settlePhase_of_same hs hprofile hpdi hphase
    rw [hsettled]
    exact hphase

theorem fallEffect_rbPhase {s : State} (hs : s.PhaseFollowsEnable) : (fallEffect s).rbPhase = s.rbPhase := by
  obtain ⟨⟨hphase, -⟩, ⟨hprofile, -⟩, -, -, -, -, hpdi, -⟩ := presentSr_frame s s
  obtain ⟨⟨-, -, -, -, hpdi'⟩, ⟨hprofile', -⟩, -, hphase', -⟩ := presentSiso_frame s (presentSr s s)
  have hsettled : fallEffect s = (presentSiso s (presentSr s s)).setSck false :=
    settlePhase_of_same hs (hprofile'.trans hprofile) (hpdi'.trans hpdi) (hphase'.trans hphase)
  rw [hsettled]
  exact hphase'.trans hphase

/-- Settles O46: a `SEL` event of the current code does nothing, and one from code 0 writes the code. -/
theorem phaseIsConstantWithinSelection : Obligations.PhaseIsConstantWithinSelection := by
  unfold Obligations.PhaseIsConstantWithinSelection
  intro i s t hs h hcode
  obtain ⟨-, -, rfl⟩ | ⟨-, -, rfl⟩ | ⟨-, c, rfl⟩ | ⟨b, -, rfl⟩ | ⟨r, -, -, rfl⟩ := exec_next_cases h
  · exact riseEffect_rbPhase hs
  · exact fallEffect_rbPhase hs
  · obtain hsame | h0 := hcode
    · rw [selEffect_code] at hsame
      rw [hsame, selEffect_same]
    · rw [selEffect_idle hs h0]
      rfl
  · rw [State.setSdi, settlePhase_setInp hs]
    rfl
  · rw [settlePhase_setInp hs]
    rfl

/-! ### The configuration register -/

/-- A `RISE` that changes the register is the LATER one that ends a frame of a selected SR (R78). -/
theorem riseEffect_latches {s : State} (h : (riseEffect s).pdi ≠ s.pdi) :
    s.profile = .later ∧ s.selCfg = true ∧ s.cnt = 0#5 := by
  have hsel : s.selCfg = true := by
    by_contra hsel
    obtain ⟨-, -, -, -, hpdi⟩ := riseEffect_unselected_sameSr (Bool.eq_false_of_not_eq_true hsel)
    exact h hpdi
  cases hp : s.profile with
  | base =>
    rw [riseEffect_cfg_base hsel hp] at h
    exact absurd rfl h
  | later =>
    refine ⟨rfl, hsel, ?_⟩
    by_contra hcnt
    rw [riseEffect_cfg_later hsel hp, sampleSr_later_midFrame hsel hp hcnt] at h
    exact h rfl

/-- A `SEL` event that changes the register is the BASE deassertion of the SR after a sample edge (R80). -/
theorem selEffect_latches {s : State} {c : Code} (h : (selEffect c s).pdi ≠ s.pdi) :
    s.profile = .base ∧ s.selCfg = true ∧ c ≠ 1#3 ∧ s.fresh = false ∧ (selEffect c s).pdi = s.sr := by
  have hc : c ≠ s.inp.code := by
    rintro rfl
    rw [selEffect_same] at h
    exact h rfl
  have hsel : s.selCfg = true := by
    by_contra hsel
    obtain ⟨-, -, -, -, hpdi⟩ := selEffect_unselected_sameSr (Bool.eq_false_of_not_eq_true hsel) c
    exact h hpdi
  obtain ⟨hcode, -⟩ := (selCfg_iff s).1 hsel
  cases hp : s.profile with
  | later => exact absurd (selEffect_later_pdi hp c) h
  | base =>
    have hpdi : (selEffect c s).pdi = if s.fresh then s.pdi else s.sr := by
      rw [selEffect_cfg_base hsel hp hc]
      rfl
    cases hf : s.fresh with
    | true => exact absurd (hpdi.trans (if_pos hf)) h
    | false => exact ⟨rfl, hsel, hcode ▸ hc, rfl, by rw [hpdi, hf]; rfl⟩

/-- Settles O45: of the five effects, a `RISE` and a `SEL` event alone can latch. -/
theorem configurationChangesOnlyByLatch : Obligations.ConfigurationChangesOnlyByLatch := by
  unfold Obligations.ConfigurationChangesOnlyByLatch
  intro i s t h hchange
  obtain ⟨rfl, -, rfl⟩ | ⟨-, -, rfl⟩ | ⟨-, c, rfl⟩ | ⟨b, -, rfl⟩ | ⟨r, -, -, rfl⟩ := exec_next_cases h
  · obtain ⟨hp, hsel, hcnt⟩ := riseEffect_latches hchange
    exact .inr ⟨hp, hsel, rfl, hcnt⟩
  · obtain ⟨-, -, -, -, hpdi, -⟩ := fallEffect_frame s
    exact absurd hpdi hchange
  · left
    rw [selEffect_code]
    exact selEffect_latches hchange
  · exact absurd rfl hchange
  · exact absurd rfl hchange

end Sys2Proof.Machine
end

section
/-! The invariants R154.1 to R154.4: they hold at power-up and every step keeps them. They read the code, the phase, the
register and the three armed parts (fresh flag, counter, SISO) alone. Of the five effects a `FALL`, an `SDI` and an `ENV`
write none of these, a `RISE` writes the armed parts of what is selected and keeps the selection, and a `SEL` event that
ends a selection arms what was selected. -/

namespace Sys2Proof.Machine

open Sys2Proof

/-! ### Power-up -/

theorem powerUp_inv (p : Profile) (lv : Inputs) (x : PowerUpContents) : (State.powerUp p lv x).Inv :=
  ⟨fun _ => ⟨rfl, fun _ => rfl⟩, le_refl 23, fun _ => ⟨fun _ => rfl, fun _ => rfl⟩, fun _ _ => rfl⟩

/-- Settles O2: `State.reset` is a power-up state. -/
theorem powerUpMeetsInvariants : Obligations.PowerUpMeetsInvariants := by
  unfold Obligations.PowerUpMeetsInvariants
  exact ⟨powerUp_inv, powerUp_inv .base Config.launchLevels Config.powerUpContents⟩

/-! ### What the invariants read -/

theorem phaseA_congr {s t : State} (h1 : t.profile = s.profile) (h2 : t.rbPhase = s.rbPhase) : t.phaseA = s.phaseA := by
  simp [State.phaseA, State.phaseB, h1, h2]

/-- The two states have the same selection in progress: the same profile, phase and code. -/
structure State.SameSelection (s t : State) : Prop where
  profile : t.profile = s.profile
  rbPhase : t.rbPhase = s.rbPhase
  code : t.inp.code = s.inp.code

theorem State.SameSelection.selCfg_eq {s t : State} (h : s.SameSelection t) : t.selCfg = s.selCfg :=
  selCfg_congr h.code h.profile h.rbPhase

theorem State.SameSelection.phaseA_eq {s t : State} (h : s.SameSelection t) : t.phaseA = s.phaseA :=
  phaseA_congr h.profile h.rbPhase

theorem srArmed_congr {s t : State} (hs : s.SrArmed) (h : s.SameSelection t) (hfresh : t.fresh = s.fresh)
    (hcnt : t.cnt = s.cnt) : t.SrArmed := by
  rw [State.SrArmed, h.selCfg_eq, h.profile, hfresh, hcnt]
  exact hs

theorem countInRange_congr {s t : State} (hs : s.CountInRange) (hcnt : t.cnt = s.cnt) : t.CountInRange := by
  rw [State.CountInRange, hcnt]
  exact hs

theorem sisoArmed_congr {s t : State} (hs : s.SisoArmed) (h : s.SameSelection t) (hfresh : t.sisoFresh = s.sisoFresh) :
    t.SisoArmed := by
  rw [State.SisoArmed, h.profile, h.phaseA_eq, h.code, hfresh]
  exact hs

theorem State.Inv.phaseFollowsEnable {s : State} (h : s.Inv) : s.PhaseFollowsEnable := by
  obtain ⟨-, -, -, hfollows⟩ := h
  exact hfollows

/-- A state that agrees in all the invariants read meets them too. -/
theorem inv_congr {s t : State} (hs : s.Inv) (h : s.SameSelection t) (hfresh : t.fresh = s.fresh) (hcnt : t.cnt = s.cnt)
    (hpdi : t.pdi = s.pdi) (hsiso : t.sisoFresh = s.sisoFresh) : t.Inv := by
  obtain ⟨hsr, hrange, hsisoArmed, hfollows⟩ := hs
  exact ⟨srArmed_congr hsr h hfresh hcnt, countInRange_congr hrange hcnt, sisoArmed_congr hsisoArmed h hsiso,
    phaseFollowsEnable_congr hfollows h.profile hpdi h.rbPhase⟩

/-! ### RISE -/

theorem riseEffect_sameSelection {s : State} (hs : s.PhaseFollowsEnable) : s.SameSelection (riseEffect s) := by
  obtain ⟨⟨hprofile, -⟩, -⟩ := riseEffect_frame s
  exact ⟨hprofile, riseEffect_rbPhase hs, by rw [riseEffect_inp]⟩

/-- A sample edge counts down from above 0, and from 0 starts the next frame at 23 (R78). -/
theorem sampleSr_countInRange {s : State} (h : s.CountInRange) : (sampleSr s s).CountInRange := by
  cases hsel : s.selCfg with
  | false =>
    rw [sampleSr_unselected hsel]
    exact h
  | true =>
    cases hp : s.profile with
    | base =>
      rw [sampleSr_base hsel hp]
      exact h
    | later =>
      by_cases hcnt : s.cnt = 0#5
      · rw [sampleSr_later_frameEnd hsel hp hcnt]
        exact le_refl 23
      · have hdown : (s.cnt - 1#5).toNat ≤ 23 := by bv_omega
        rw [sampleSr_later_midFrame hsel hp hcnt]
        exact hdown

theorem riseEffect_countInRange {s : State} (h : s.CountInRange) : (riseEffect s).CountInRange := by
  obtain ⟨⟨-, -, -, hcnt, -⟩, -⟩ := sampleReadback_frame s (sampleSr s s)
  exact countInRange_congr (sampleSr_countInRange h) hcnt

theorem riseEffect_srArmed {s : State} (hs : s.PhaseFollowsEnable) (h : s.SrArmed) : (riseEffect s).SrArmed := by
  intro hsel
  have hsel' : s.selCfg = false := (riseEffect_sameSelection hs).selCfg_eq ▸ hsel
  obtain ⟨-, -, hfresh, hcnt, -⟩ := riseEffect_unselected_sameSr hsel'
  exact srArmed_congr h (riseEffect_sameSelection hs) hfresh hcnt hsel

/-- Where R154.3 asks for an armed SISO, a sample edge of the read-back machine does not touch it. -/
theorem riseEffect_sisoArmed {s : State} (hs : s.PhaseFollowsEnable) (h : s.SisoArmed) : (riseEffect s).SisoArmed := by
  have hsame := riseEffect_sameSelection hs
  by_cases helse : s.phaseA = true ∨ s.inp.code = 0#3
  · obtain ⟨-, hfresh⟩ := riseEffect_keeps_siso helse
    exact sisoArmed_congr h hsame hfresh
  · obtain ⟨hB, hcode⟩ := not_or.1 helse
    rw [State.SisoArmed, hsame.phaseA_eq, hsame.code]
    exact fun _ => ⟨fun hA => absurd hA hB, fun h0 => absurd h0 hcode⟩

theorem riseEffect_inv {s : State} (hs : s.Inv) : (riseEffect s).Inv := by
  obtain ⟨hsr, hrange, hsiso, hfollows⟩ := hs
  exact ⟨riseEffect_srArmed hfollows hsr, riseEffect_countInRange hrange, riseEffect_sisoArmed hfollows hsiso,
    settlePhase_follows _⟩

/-! ### FALL -/

theorem fallEffect_inv {s : State} (hs : s.Inv) : (fallEffect s).Inv := by
  obtain ⟨⟨hprofile, -⟩, -, hfresh, hcnt, hpdi, -, -, hsiso, -⟩ := fallEffect_frame s
  have hsame : s.SameSelection (fallEffect s) := ⟨hprofile, fallEffect_rbPhase hs.phaseFollowsEnable, by rw [fallEffect_inp]⟩
  exact inv_congr hs hsame hfresh hcnt hpdi hsiso

/-! ### SEL -/

/-- The end of a selection arms a selected SR, and R154.1 says that any other is armed already (R80, R81). -/
theorem releaseSr_armed {s : State} (h : s.SrArmed) :
    (releaseSr s s).fresh = true ∧ (s.profile = .later → (releaseSr s s).cnt = 23#5) := by
  cases hsel : s.selCfg with
  | false =>
    rw [releaseSr_unselected hsel]
    exact h hsel
  | true =>
    cases hp : s.profile with
    | base =>
      rw [releaseSr_base hsel hp]
      exact ⟨rfl, nofun⟩
    | later =>
      rw [releaseSr_later hsel hp]
      exact ⟨rfl, fun _ => rfl⟩

theorem releaseSr_countInRange {s : State} (h : s.CountInRange) : (releaseSr s s).CountInRange := by
  cases hsel : s.selCfg with
  | false =>
    rw [releaseSr_unselected hsel]
    exact h
  | true =>
    cases hp : s.profile with
    | base =>
      rw [releaseSr_base hsel hp]
      cases s.fresh <;> exact h
    | later =>
      rw [releaseSr_later hsel hp]
      exact le_refl 23

/-- The end of a selection arms the SISO in phase B, and R154.3 says that it is armed already elsewhere (R132). -/
theorem releaseReadback_armed {s : State} (h : s.SisoArmed) (hp : s.profile = .later) :
    (releaseReadback s (releaseSr s s)).sisoFresh = true := by
  obtain ⟨hphaseA, hidle⟩ := h hp
  obtain ⟨⟨-, -, -, -, hkeep⟩, -⟩ := releaseSr_frame s s
  by_cases h0 : s.inp.code = 0#3
  · rw [releaseReadback_idle h0]
    exact hkeep.trans (hidle h0)
  · rw [releaseReadback_later hp h0]
    cases hB : s.phaseB with
    | true => rfl
    | false => exact hkeep.trans (hphaseA (by rw [State.phaseA, hB]; rfl))

theorem selEffect_inv {s : State} (hs : s.Inv) (c : Code) : (selEffect c s).Inv := by
  by_cases hc : c = s.inp.code
  · rw [hc, selEffect_same]
    exact hs
  · obtain ⟨hsr, hrange, hsiso, hfollows⟩ := hs
    obtain ⟨⟨-, -, hfresh, hcnt, -⟩, -⟩ := releaseReadback_frame s (releaseSr s s)
    have hprofile := selEffect_profile c s
    obtain ⟨harmed, hfull⟩ := releaseSr_armed hsr
    rw [selEffect, if_neg hc] at hprofile ⊢
    refine ⟨fun _ => ⟨hfresh.trans harmed, fun hp => hcnt.trans (hfull (hprofile.symm.trans hp))⟩, ?_,
      fun hp => ?_, settlePhase_follows _⟩
    · exact countInRange_congr (releaseSr_countInRange hrange) hcnt
    · have hsisoFresh := releaseReadback_armed hsiso (hprofile.symm.trans hp)
      exact ⟨fun _ => hsisoFresh, fun _ => hsisoFresh⟩

/-! ### Every instruction, every step -/

theorem settlePhase_setInp_inv {s : State} (hs : s.Inv) {x : Inputs} (hcode : x.code = s.inp.code) :
    (settlePhase (s.setInp x)).Inv := by
  rw [settlePhase_setInp hs.phaseFollowsEnable]
  exact inv_congr hs ⟨rfl, rfl, hcode⟩ rfl rfl rfl rfl

theorem exec_keeps_inv {i : Instr} {s t : State} (hs : s.Inv) (h : exec i s = .next t) : t.Inv := by
  obtain ⟨-, -, rfl⟩ | ⟨-, -, rfl⟩ | ⟨-, c, rfl⟩ | ⟨b, -, rfl⟩ | ⟨r, -, -, rfl⟩ := exec_next_cases h
  · exact riseEffect_inv hs
  · exact fallEffect_inv hs
  · exact selEffect_inv hs c
  · exact settlePhase_setInp_inv hs rfl
  · exact settlePhase_setInp_inv hs rfl

/-- Settles O43: with nothing pending the state stays; otherwise an instruction runs from a state that differs in the trace
alone. -/
theorem stepKeepsInvariants : Obligations.StepKeepsInvariants := by
  unfold Obligations.StepKeepsInvariants
  intro s t hs h
  obtain ⟨-, rfl⟩ | ⟨it, rest, i, -, -, hexec⟩ := step_next_cases h
  · exact hs
  · have hrest : (s.setPending rest).Inv := inv_congr hs ⟨rfl, rfl, rfl⟩ rfl rfl rfl rfl
    exact exec_keeps_inv hrest hexec

end Sys2Proof.Machine
end

section
/-! A selection with no sample edge (R162). What the end of a selection arms is armed already, so it leaves the SR, the
configuration register and the SISO as they are; what is left of it is the phase flip of LATER (R125). -/

namespace Sys2Proof.Machine

open Sys2Proof

/-! ### Writing what is already there -/

theorem setFresh_same {s : State} {b : Bool} (h : s.fresh = b) : s.setFresh b = s := by
  subst h
  rfl

theorem setCnt_same {s : State} {n : BitCount} (h : s.cnt = n) : s.setCnt n = s := by
  subst h
  rfl

theorem setSisoFresh_same {s : State} {b : Bool} (h : s.sisoFresh = b) : s.setSisoFresh b = s := by
  subst h
  rfl

/-- A selection that ends where it began leaves no mark on the input levels. -/
theorem setCode_restore {s : State} {c0 : Code} (h : s.inp.code = c0) (c : Code) : (s.setCode c).setCode c0 = s := by
  subst h
  rfl

/-! ### The end of a selection whose parts are armed -/

/-- Releasing an armed SR changes nothing; in particular BASE does not latch (R80, R81). -/
theorem releaseSr_of_armed {s : State} (hf : s.fresh = true) (hcnt : s.profile = .later → s.cnt = 23#5) :
    releaseSr s s = s := by
  cases hsel : s.selCfg with
  | false => exact releaseSr_unselected hsel s
  | true =>
    cases hp : s.profile with
    | base => rw [releaseSr_base hsel hp, if_pos hf, setFresh_same hf]
    | later => rw [releaseSr_later hsel hp, setFresh_same hf, setCnt_same (hcnt hp)]

/-- With the SISO armed, of the read-back machine's part the flip alone is left (R125, R132). -/
theorem releaseReadback_of_armed {s : State} (hp : s.profile = .later) (h0 : s.inp.code ≠ 0#3)
    (hf : s.sisoFresh = true) :
    releaseReadback s s = s.setRbPhase (if s.cfg.rbEn then s.rbPhase.flip else s.rbPhase) := by
  rw [releaseReadback_later hp h0, setSisoFresh_same hf, ite_self, phaseAfterDeassertion, Bool.and_self]

theorem selEffect_armed_base {s : State} (hp : s.profile = .base) (hf : s.fresh = true) {c : Code}
    (hc : c ≠ s.inp.code) : selEffect c s = s.setCode c := by
  rw [selEffect_base hp hc, releaseSr_of_armed hf (by simp [hp])]

/-- The phase the flip leaves follows the enable bit: it flips only while the bit is set (R125, R126). -/
theorem selEffect_armed_later {s : State} (hs : s.PhaseFollowsEnable) (hp : s.profile = .later) (h0 : s.inp.code ≠ 0#3)
    (hf : s.fresh = true) (hcnt : s.cnt = 23#5) (hsiso : s.sisoFresh = true) {c : Code} (hc : c ≠ s.inp.code) :
    selEffect c s = (s.setRbPhase (if s.cfg.rbEn then s.rbPhase.flip else s.rbPhase)).setCode c := by
  rw [selEffect, if_neg hc, releaseSr_of_armed hf (fun _ => hcnt), releaseReadback_of_armed hp h0 hsiso]
  cases he : s.cfg.rbEn with
  | true => exact settlePhase_of_enabled he rfl rfl
  | false => exact settlePhase_phaseA (hs hp he)

/-! ### The transaction -/

/-- From code 0 the first `SEL` writes the code alone, and the second runs in the state that gives. -/
theorem runEvents_zeroEdge {s : State} (hs : s.PhaseFollowsEnable) (h0 : s.inp.code = 0#3) (c : Code) :
    runEvents [.sel c, .sel 0#3] s = .next (selEffect 0#3 (s.setCode c)) := by
  rw [runEvents_cons_next (exec_sel_next c s), selEffect_idle hs h0, runEvents_cons_next (exec_sel_next _ _),
    runEvents_nil]

/-- Settles O55: with code 0 the invariants have every part armed (R154.1, R154.3). -/
theorem zeroEdgeTransaction : Obligations.ZeroEdgeTransaction := by
  unfold Obligations.ZeroEdgeTransaction
  intro s c hs h0 hc
  obtain ⟨hsr, -, hsiso, hfollows⟩ := hs
  obtain ⟨hfresh, hcnt⟩ := hsr (selCfg_of_code_ne (h0.trans_ne (by decide)))
  refine ⟨_, runEvents_zeroEdge hfollows h0 c, fun hp => ?_, fun hp => ?_⟩
  · rw [selEffect_armed_base (s := s.setCode c) hp hfresh hc.symm, setCode_restore h0]
  · obtain ⟨-, hidle⟩ := hsiso hp
    rw [selEffect_armed_later (s := s.setCode c) hfollows hp hc hfresh (hcnt hp) (hidle h0) hc.symm]
    exact setCode_restore (s := s.setRbPhase (if s.cfg.rbEn then s.rbPhase.flip else s.rbPhase)) h0 c

end Sys2Proof.Machine
end

section
/-! Power-up and the hazards of the phase (R180 to R196): what power-up leaves, the step with no event to come, and what a
24-bit write to code 1 does in LATER. In phase A a write latches its word, and the phase after it is the word's enable bit;
in phase B it latches nothing and ends in phase A. Two disabling writes therefore end alike from either phase. -/

namespace Sys2Proof.Machine

open Sys2Proof

/-! ### A write to code 1 in LATER -/

theorem length_wordBits (v : Word) : (wordBits v).length = 24 := by
  rw [wordBits, List.length_map, List.length_range]

/-- The bits of a word, sent in their order, assemble to the word (R45, R69). -/
theorem wordOfBits_wordBits (v : Word) : wordOfBits (wordBits v) = v := by
  apply BitVec.eq_of_getLsbD_eq
  intro k hk
  have hindex : 23 - (24 - 1 - k) = k := by omega
  have hlt : 24 - 1 - k < 24 := by omega
  rw [wordOfBits, getLsbD_foldl_shiftIn _ _ hk, length_wordBits, if_pos hk, List.getD_reverse k (by rwa [length_wordBits]),
    length_wordBits, wordBits, List.getD_eq_getElem?_getD, List.getElem?_map, List.getElem?_range hlt, Option.map_some,
    Option.getD_some, hindex]

theorem cfg_rbEn_later {s : State} (hp : s.profile = .later) : s.cfg.rbEn = s.pdi.getLsbD 23 := by
  rw [cfg_later hp, decodeCfg]

/-- A LATER core between transactions whose next transaction to code 1 is a write: phase A, the SR armed. -/
structure State.WriteReady (s : State) : Prop where
  later : s.profile = .later
  phaseA : s.rbPhase = .a
  quiescent : s.Quiescent
  fresh : s.fresh = true
  cnt : s.cnt = 23#5

/-- A phase-A write latches its word at its 24th edge, and its deassertion, which reads the new word's enable bit, leaves the
phase that bit asks for (R78, R125, R126). -/
theorem runEvents_wcfg_writeReady {s : State} (h : s.WriteReady) (v : Word) :
    ∃ t, runEvents (wcfgEvents v) s = .next t ∧ t.profile = .later ∧ t.pdi = v ∧
      t.rbPhase = (if v.getLsbD 23 then .b else .a) ∧ t.Quiescent ∧ t.fresh = true ∧ t.cnt = 23#5 := by
  obtain ⟨hp, ha, hq, hf, hcnt⟩ := h
  obtain ⟨hstart, hsel, -⟩ := selEffect_startCfg ((phaseA_iff s).2 (.inr ha)) hq hf
  have hpu : (sendBits (s.setCode 1#3) (wordBits v)).profile = .later := (sendBits_profile _ _).trans hp
  have hcode : 0#3 ≠ (sendBits (s.setCode 1#3) (wordBits v)).inp.code := by rw [sendBits_code]; simp
  have hpdi : (sendBits (s.setCode 1#3) (wordBits v)).pdi = v := by
    obtain ⟨-, -, hlatch⟩ := sendBits_frame hsel hp hcnt (length_wordBits v)
    rw [hlatch, wordOfBits_wordBits]
  have hend := selEffect_cfg_later (sendBits_selCfg hsel (wordBits v)) hpu hcode
  rw [cfg_rbEn_later hpu, hpdi] at hend
  refine ⟨_, runEvents_xfer hq.2 1#3 (wordBits v), ?_⟩
  have hquiet := xfer_quiescent hq.2 1#3 (wordBits v)
  rw [hstart, hend] at hquiet ⊢
  -- the end of the write reads the state after the bits through `hpu` and `hpdi` alone
  generalize sendBits (s.setCode 1#3) (wordBits v) = u at *
  exact ⟨hpu, hpdi, rfl, hquiet, rfl, rfl⟩

/-- Settles O58. -/
theorem enablingWriteLeadsToPhaseB : Obligations.EnablingWriteLeadsToPhaseB := by
  unfold Obligations.EnablingWriteLeadsToPhaseB
  intro s v hp ha hq hf hcnt hv
  obtain ⟨t, hrun, -, hpdi, hphase, hquiet, -⟩ := runEvents_wcfg_writeReady ⟨hp, ha, hq, hf, hcnt⟩ v
  rw [if_pos hv] at hphase
  exact ⟨t, hrun, hpdi, hphase, hquiet⟩

/-! ### Recovery of the phase -/

theorem runEvents_xfer_keeps_profile {s t : State} (h : s.inp.sck = false) {c : Code} {bits : List Bool}
    (hrun : runEvents (xferEvents c bits) s = .next t) : t.profile = s.profile := by
  rw [runEvents_xfer h] at hrun
  cases hrun
  rw [selEffect_profile, sendBits_profile, selEffect_profile]

/-- From either phase one disabling write leaves the core ready for a write: in phase A its word clears the enable bit, in
phase B it is a read-back transaction, which touches no SR and ends in phase A (R125, R126, R134). -/
theorem runEvents_wcfg_disabling {s : State} (hp : s.profile = .later) (hs : s.Inv) (hq : s.Quiescent) {v : Word}
    (hv : v.getLsbD 23 = false) : ∃ t, runEvents (wcfgEvents v) s = .next t ∧ t.WriteReady := by
  obtain ⟨hsr, -, hsiso, hfollows⟩ := hs
  obtain ⟨hcode, hsck⟩ := hq
  obtain ⟨hf, hcnt⟩ := hsr (selCfg_of_code_ne (hcode.trans_ne (by decide)))
  cases hphase : s.rbPhase with
  | a =>
    obtain ⟨t, hrun, hpt, -, hpa, hqt, hft, hct⟩ :=
      runEvents_wcfg_writeReady ⟨hp, hphase, ⟨hcode, hsck⟩, hf, hcnt hp⟩ v
    rw [hv] at hpa
    exact ⟨t, hrun, hpt, hpa, hqt, hft, hct⟩
  | b =>
    have henabled : s.cfg.rbEn = true := by
      cases he : s.cfg.rbEn with
      | true => rfl
      | false => simp [hfollows hp he] at hphase
    obtain ⟨-, hidle⟩ := hsiso hp
    obtain ⟨-, t, hrun, hqt, ⟨-, -, hft, hct, -⟩, -, hpa, -⟩ :=
      readbackTransaction s 1#3 (wordBits v) hp hphase henabled ⟨hcode, hsck⟩ (hidle hcode) (by decide)
    exact ⟨t, hrun, (runEvents_xfer_keeps_profile hsck hrun).trans hp, hpa, hqt, hft.trans hf, hct.trans (hcnt hp)⟩

/-- Settles O57: whatever the phase was, the second write is a phase-A one. -/
theorem twoDisablingWritesRecover : Obligations.TwoDisablingWritesRecover := by
  unfold Obligations.TwoDisablingWritesRecover
  intro s v hp hs hq hv
  obtain ⟨t, hfirst, hready⟩ := runEvents_wcfg_disabling hp hs hq hv
  obtain ⟨u, hsecond, hpu, hpdi, hphase, hqu, -⟩ := runEvents_wcfg_writeReady hready v
  rw [hv] at hphase
  exact ⟨u, (runEvents_append_next hfirst _).trans hsecond, hpdi, hphase, by rw [cfg_rbEn_later hpu, hpdi, hv], hqu⟩

/-! ### Power-up -/

/-- At power-up every configuration field is 0, in either layout (R34, R35, R180). -/
theorem powerUp_cfg (p : Profile) (lv : Inputs) (x : PowerUpContents) :
    (State.powerUp p lv x).cfg =
      { rfSw := 0#4, led := 0#4, profile := 0#3, maskNu := 0#4, ioUpdate := false, clkSel := 0#2, syncSel := false
        rst := false, ioRst := false, div := 0#2, rbEn := false } := by
  cases p with
  | base => simp [State.cfg, State.powerUp, decodeCfg]
  | later => simp [State.cfg, State.powerUp, decodeCfg]

theorem powerUp_clkDiv (p : Profile) (lv : Inputs) (x : PowerUpContents) :
    (State.powerUp p lv x).clkDiv = match p with | .base => none | .later => some 0#2 := by
  cases p with
  | base => exact clkDiv_base rfl
  | later => rw [clkDiv_later rfl, powerUp_cfg]

theorem powerUp_mask (p : Profile) (lv : Inputs) (x : PowerUpContents) (i : Channel) :
    (State.powerUp p lv x).mask i = false := by
  simp [State.mask, powerUp_cfg]

/-- With its mask bit clear a channel is on the shared path and in broadcasts (R91, R92). -/
theorem shared_and_bcast_of_unmasked {s : State} {i : Channel} (h : s.mask i = false) :
    s.shared i = true ∧ s.bcast i = true :=
  ⟨(shared_iff s i).2 (.inr h), by rw [State.bcast, h]; rfl⟩

/-- Settles O1: the outputs from the configuration fields, which are all 0, and the launch levels. -/
theorem powerUpState : Obligations.PowerUpState := by
  unfold Obligations.PowerUpState
  refine ⟨fun p lv x => ?_, Config.launchLevels, Config.powerUpContents, rfl⟩
  have hcfg := powerUp_cfg p lv x
  have hcode : (State.powerUp p lv x).inp.code = 0#3 := rfl
  have hatt : (State.powerUp p lv x).selAtt = false := selAtt_of_code_ne (hcode.trans_ne (by decide))
  refine ⟨rfl, rfl, rfl, rfl, rfl, rfl, rfl, rfl, rfl, rfl, rfl, rfl, rfl, ?_⟩
  simp only [outputs_rfSw, outputs_ledR, outputs_ledG, outputs_ddsProfile, outputs_ddsIoUpdate, outputs_ddsRst,
    outputs_ddsIoRst, outputs_attRst, outputs_clkSel, outputs_syncSel, outputs_clkDiv, outputs_attLe, hcfg, hatt, BitVec.zero_or,
    Bool.not_false, true_and, and_true]
  exact ⟨rfl, rfl, rfl, powerUp_clkDiv p lv x, fun i => shared_and_bcast_of_unmasked (powerUp_mask p lv x i)⟩

/-! ### Nothing pending -/

/-- Settles O6. -/
theorem nothingPendingKeepsTheState : Obligations.NothingPendingKeepsTheState := by
  unfold Obligations.NothingPendingKeepsTheState
  intro s hp
  have hfetch : s.fetch = .nothing := by rw [State.fetch, hp]
  rw [step, hfetch]

end Sys2Proof.Machine
end
